-- ==== Sys2Proof/Word.lean ====
section
/-!
DEFINITION. The byte, the one unit in which the GC-24's frames, payloads and flash pages are written.
Quantities the manual calls integers in fixed units (00_scope.md 6.1) are `Int` and `Nat` in this model; bytes stand
only where the manual carries bytes (chapter 11).
-/

namespace Sys2Proof

/-- One byte of a frame, a payload or a flash page. -/
abbrev Byte := BitVec 8

/-- A byte from the low eight bits of a number. -/
abbrev byte (n : Nat) : Byte := BitVec.ofNat 8 n

end Sys2Proof
end

