-- ==== Sys2Proof/Config.lean ====
section
/-!
DEFINITION. What the manual fixes once for every part, and the one value it leaves open.
-/

namespace Sys2Proof.Config

/-- Reference periods in one second: REFCLK is 10.000 MHz (00_scope.md 4.1; R47). -/
def periodsPerSecond : Nat := 10000000

/-- Reference periods in one unit of the gate limit, 10 ms (R1, R77). -/
def periodsPerGateUnit : Nat := 100000

/-- Reference periods in the restart timer's 500 ms (R172). -/
def restartPeriods : Nat := 5000000

/-- The pulse tolerance of 50 microseconds, in reference periods (R50, R52). -/
def pulseTolerance : Nat := 500

/-- The part's revision number (R171). -/
def revision : Nat := 1

/-- The largest reference count a gate can hold (R3). -/
def maxReferenceCount : Nat := 600000000

/-- The byte in which CGRD carries a calibration gate's number of frames when it exceeds 255. R175 carries a count of
frames in eight bits, and a gate of 60 s at the shortest scan interval receives up to 1,920 frames: the spec states no
byte for such a count. A FREE VALUE: nothing constrains it (log entry 2). -/
opaque wideFrameCount : Nat → Byte

end Sys2Proof.Config
end

