-- ==== Sys2Proof/Syntax.lean ====
section
/-!
DEFINITION. The commands of the GC-24: one constructor for each row of spec/opcode_table.json, in the table's order.
A request row carries the frame's port, tag and payload bytes as received (R160, R161); an event row carries what the
outside world decides about the event and the part does not.
-/

namespace Sys2Proof

/-- The two serial ports, Port A and Port B. -/
inductive Port where
  | a
  | b
deriving DecidableEq, Repr

/-- The other port. -/
def Port.other : Port → Port
  | .a => .b
  | .b => .a

/-- The three analog channels (R10). -/
inductive Channel where
  | tiltX
  | tiltY
  | temperature
deriving DecidableEq, Repr

/-- The commands of spec/opcode_table.json. -/
inductive Instr where
  /-- POWER_RESET. `markerWritten`: whether the flash operation in flight, if any, had already written its completion
  marker when the reset came (R156, R89). -/
  | powerReset (markerWritten : Bool)
  /-- LINE_RESET, with the same operand. -/
  | lineReset (markerWritten : Bool)
  | modelLoadEnd
  | mountEnd
  | cgat (p : Port) (tag : Byte) (payload : List Byte)
  | cgrd (p : Port) (tag : Byte) (payload : List Byte)
  | live (p : Port) (tag : Byte) (payload : List Byte)
  | ckst (p : Port) (tag : Byte) (payload : List Byte)
  | ckrd (p : Port) (tag : Byte) (payload : List Byte)
  | tdcp (p : Port) (tag : Byte) (payload : List Byte)
  | mdwr (p : Port) (tag : Byte) (payload : List Byte)
  | mdrd (p : Port) (tag : Byte) (payload : List Byte)
  | setu (p : Port) (tag : Byte) (payload : List Byte)
  | surv (p : Port) (tag : Byte) (payload : List Byte)
  | mdst (p : Port) (tag : Byte) (payload : List Byte)
  | rdrq (p : Port) (tag : Byte) (payload : List Byte)
  | rdcn (p : Port) (tag : Byte) (payload : List Byte)
  | rdqu (p : Port) (tag : Byte) (payload : List Byte)
  | stdf (p : Port) (tag : Byte) (payload : List Byte)
  | strm (p : Port) (tag : Byte) (payload : List Byte)
  | strd (p : Port) (tag : Byte) (payload : List Byte)
  | ocop (p : Port) (tag : Byte) (payload : List Byte)
  | occl (p : Port) (tag : Byte) (payload : List Byte)
  | ocds (p : Port) (tag : Byte) (payload : List Byte)
  | ocrd (p : Port) (tag : Byte) (payload : List Byte)
  | arrt (p : Port) (tag : Byte) (payload : List Byte)
  | arsk (p : Port) (tag : Byte) (payload : List Byte)
  | arnx (p : Port) (tag : Byte) (payload : List Byte)
  | arst (p : Port) (tag : Byte) (payload : List Byte)
  | evrd (p : Port) (tag : Byte) (payload : List Byte)
  | evak (p : Port) (tag : Byte) (payload : List Byte)
  | evcf (p : Port) (tag : Byte) (payload : List Byte)
  | peer (p : Port) (tag : Byte) (payload : List Byte)
  | iden (p : Port) (tag : Byte) (payload : List Byte)
  | rstr (p : Port) (tag : Byte) (payload : List Byte)
  /-- UNKNOWN_REQUEST: a well-formed frame with four name bytes that name no request (R161). -/
  | unknownRequest (p : Port) (tag : Byte) (name payload : List Byte)
  /-- FRAME_LENGTH_ERROR, with the length field received, above 520 (R160). -/
  | frameLengthError (p : Port) (tag : Byte) (length : BitVec 16)
  | frameCheckError (p : Port) (tag : Byte)
  /-- LINE_ERROR on Port B (R159). -/
  | lineError
  /-- FRAME_GAP_EXPIRY on Port B (R159). -/
  | frameGapExpiry
  /-- SELECT_RELEASE on Port A (R158). -/
  | selectRelease
  | responseSent (p : Port)
  | restartTimerExpiry
  | atnPulse (p : Port)
  | startEdge
  /-- SENSOR_EDGE: `edges` FREQ rising edges with no other command between them (one edge is `sensorEdge 1`). -/
  | sensorEdge (edges : Nat)
  | completionEdge
  | gateTimeout
  | frameArrival
  | levelMonitorFrame
  | thermalTrackerFrame
  | gateAccumulatorFrame
  | calibrationAccumulatorFrame
  | calibrationGateEnd
  | internalTick
  | secondPulseInternal
  | secondPulseDisciplined
  | pulseWindowExpiry
  | takeHead
  | settleExpiry
  | levelWaitExpiry
  | levelNotice
  | completionReport
  | timeoutReport
  | thermalReport
  | stepNotice
  | staging
  | startModelStore
  | startPageProgram
  | pageProgramSuccess
  | pageProgramFailure
  /-- MODEL_STORE_COMPLETION. `verified`: whether every step of the store verified (R88). -/
  | modelStoreCompletion (verified : Bool)
  /-- REFERENCE_PERIOD_END: `periods` REFCLK rising edges with no other command between them (one edge is
  `referencePeriodEnd 1`). -/
  | referencePeriodEnd (periods : Nat)
  /-- ANALOG_CONVERSION: one 24-bit signed code of one channel (R10). -/
  | analogConversion (channel : Channel) (code : BitVec 24)
deriving DecidableEq, Repr

end Sys2Proof
end

