-- ==== Sys2Proof/Machine/ModelGroups.lean ====
section
/-!
DEFINITION. The nine groups of the Correction Model (chapter 6.3), their fields and their defaults (R90's table).
-/

namespace Sys2Proof.Machine

/-- One calibration interval, CALI[i] (R73). -/
structure CaliSlot where
  enabled : Bool
  /-- First raw value of the segment, 0..2^32 - 1. -/
  start : Nat
  /-- Last raw value of the segment, 0..2^32 - 1. -/
  stop : Nat
  /-- Calibrated gravity at `start`, in 0.01 microgal. -/
  base : Int
  /-- Slope, 16.16, per raw unit. -/
  factor : Int
deriving DecidableEq, Repr

/-- The TILT group (R20). -/
structure TiltGroup where
  zeroX : Int
  zeroY : Int
  sensX : Int
  sensY : Int
  /-- Level threshold Lt, 1..1,000,000. -/
  threshold : Int
  /-- Hysteresis H, 0..1,000,000. -/
  hysteresis : Int
  /-- Debounce D, 1..255 frames. -/
  debounce : Nat
  /-- Motion limit, 0..2,000,000; 0 disables. -/
  motionLimit : Int
deriving DecidableEq, Repr

/-- The THRM group (R33). -/
structure ThrmGroup where
  sens : Int
  offset : Int
  setPoint : Int
  /-- Window half width W. -/
  window : Int
  kT : Int
  kG : Int
  nUp : Nat
  nDown : Nat
  /-- Bucket threshold U. -/
  bucketLimit : Int
  /-- Baseline step Sb. -/
  step : Int
  /-- Frames of large fall before a low reset, L. -/
  lowFrames : Nat
  followAlways : Bool
deriving DecidableEq, Repr

/-- One tide constituent, TIDE[j] (R61). -/
structure TideSlot where
  enabled : Bool
  /-- Species k, 0..3. -/
  species : Nat
  /-- Speed, in 2^-40 turn per second. -/
  speed : Nat
  /-- Phase at the epoch, in 2^-32 turn. -/
  phase : Nat
  /-- Amplitude, in 0.01 microgal. -/
  amplitude : Int
deriving DecidableEq, Repr

/-- The TIDR group (R62): reference longitude and epoch. -/
structure TidrGroup where
  longitude : Int
  epoch : Nat
deriving DecidableEq, Repr

/-- The GATE group (R77). -/
structure GateGroup where
  rawLow : Nat
  rawHigh : Nat
  /-- Gate limit, 1..6,000 units of 10 ms. -/
  gateLimit : Int
  /-- Settle interval, 0..600 s. -/
  settle : Int
  /-- Level-wait limit, 1..600 s. -/
  levelWait : Int
  /-- Outlier limit, 0..50,000,000; 0 disables. -/
  outlierLimit : Int
  /-- Local gravity g0, 976,000..984,000 mGal. -/
  g0 : Int
deriving DecidableEq, Repr

/-- The four scan intervals (R9). -/
inductive ScanInterval where
  | thirtySecond
  | eighth
  | half
  | two
deriving DecidableEq, Repr

/-- The SCAN group (R9): the scan interval and the averaging count A, one of 1, 2, 4 or 8. -/
structure ScanGroup where
  interval : ScanInterval
  averaging : Nat
deriving DecidableEq, Repr

/-- One port's station window, WIND[p] (R85). -/
structure Window where
  first : Nat
  last : Nat
  writeProtect : Bool
deriving DecidableEq, Repr

/-- Every group of the Correction Model. -/
structure Groups where
  cali : Vector CaliSlot 24
  tilt : TiltGroup
  thrm : ThrmGroup
  tide : Vector TideSlot 16
  tidr : TidrGroup
  gate : GateGroup
  scan : ScanGroup
  windA : Window
  windB : Window
  /-- The ARCV wrap option (R86). -/
  wrap : Bool
deriving DecidableEq, Repr

/-- One group's name with its index (chapter 6.3). -/
inductive GroupId where
  | cali (i : Fin 24)
  | tilt
  | thrm
  | tide (j : Fin 16)
  | tidr
  | gate
  | scan
  | wind (p : Port)
  | arcv
deriving DecidableEq, Repr

/-- CALI default (R73). -/
def CaliSlot.defaults : CaliSlot := ⟨false, 0, 0, 0, 0⟩

/-- TILT defaults (R20). -/
def TiltGroup.defaults : TiltGroup := ⟨0, 0, 65536, 65536, 20000, 2000, 8, 0⟩

/-- THRM defaults (R33). -/
def ThrmGroup.defaults : ThrmGroup :=
  { sens := 65536, offset := 0, setPoint := 0, window := 50000, kT := 0, kG := 0, nUp := 50, nDown := 20,
    bucketLimit := 400, step := 1, lowFrames := 20, followAlways := false }

/-- TIDE default (R61). -/
def TideSlot.defaults : TideSlot := ⟨false, 0, 0, 0, 0⟩

/-- GATE defaults (R77). -/
def GateGroup.defaults : GateGroup := ⟨0, 4294967295, 1000, 5, 60, 0, 980000⟩

/-- WIND default (R85). -/
def Window.defaults : Window := ⟨1, 65534, false⟩

/-- The defaults of every group, as R90 gathers them. -/
def Groups.defaults : Groups :=
  { cali := Vector.replicate 24 CaliSlot.defaults
    tilt := TiltGroup.defaults
    thrm := ThrmGroup.defaults
    tide := Vector.replicate 16 TideSlot.defaults
    tidr := ⟨0, 0⟩
    gate := GateGroup.defaults
    scan := ⟨.eighth, 2⟩
    windA := Window.defaults
    windB := Window.defaults
    wrap := false }

/-- The window of a port (R85). -/
def Groups.window (g : Groups) : Port → Window
  | .a => g.windA
  | .b => g.windB

/-- A station number lies in a window: write-protect OFF and first ≤ n ≤ last (R85). -/
def Window.holds (w : Window) (n : Nat) : Bool :=
  !w.writeProtect && decide (w.first ≤ n) && decide (n ≤ w.last)

/-- A scan interval in reference periods: 1/32, 1/8, 1/2 or 2 s (R9). -/
def ScanInterval.periods : ScanInterval → Nat
  | .thirtySecond => 312500
  | .eighth => 1250000
  | .half => 5000000
  | .two => 20000000

end Sys2Proof.Machine
end

