-- ==== Sys2Proof/Machine/State.lean ====
section
/-!
DEFINITION. The state of the GC-24: every register, table, queue, buffer, counter, mode and pin the spec gives the part,
block by block in the order of its chapters, the deliveries between blocks that a later command takes, and the queue of
waiting commands. Dates are counts of REFCLK rising edges (R47), held in `now`; a running timer is the date it is due.
-/

namespace Sys2Proof.Machine

/-! ### Chapter 1: Sensor Gate, calibration function, Frame Scanner -/

/-- Time state (chapter 4.1). -/
inductive TimeState where
  | unset
  | set
deriving DecidableEq, Repr

/-- Discipline (chapter 4.1). -/
inductive Discipline where
  | internal
  | pulse
deriving DecidableEq, Repr

/-- A stamp of the Survey Clock (R7). -/
structure Stamp where
  seconds : Nat
  fraction : Nat
  time : TimeState
  discipline : Discipline
deriving DecidableEq, Repr

/-- The Sensor Gate's states (chapter 1.1). -/
inductive GateState where
  | idle
  | armed
  | counting
deriving DecidableEq, Repr

/-- Who armed the gate (chapter 1.1). -/
inductive Armer where
  | engine
  | calibration (p : Port)
deriving DecidableEq, Repr

/-- The gate's record (chapter 1.1, R1). -/
structure SensorGate where
  state : GateState
  armer : Option Armer
  k : Nat
  edgeCount : Nat
  refCount : Nat
  start : Option Stamp
  stop : Option Stamp
  stepped : Bool
  /-- The date the limit timer is due, while it runs. -/
  limitDue : Option Nat
  /-- Arms taken; the number identifies the gate now armed or counting (MODEL's own, for R99 and R100). -/
  armCount : Nat
deriving DecidableEq, Repr

/-- A completion report (R4). -/
structure Completion where
  gate : Nat
  k : Nat
  count : Nat
  raw : Nat
  start : Stamp
  stop : Stamp
  stepped : Bool
deriving DecidableEq, Repr

/-- A report of the Sensor Gate on its way to its armer (R4, R5). -/
inductive GateReport where
  | completion (c : Completion)
  | timeout (gate k : Nat) (start : Option Stamp)
deriving DecidableEq, Repr

/-- One published frame (chapter 1.4); `id` is its identity (R40, R100). -/
structure Frame where
  id : Nat
  tiltX : Int
  tiltY : Int
  temp : Int
  satX : Bool
  satY : Bool
  satT : Bool
deriving DecidableEq, Repr

/-- The calibration result's states (chapter 1.5). -/
inductive CalState where
  | empty
  | pending
  | complete
  | timeout
deriving DecidableEq, Repr

/-- The three saturation marks of a calibration result (chapter 1.5). -/
structure SatMarks where
  x : Bool
  y : Bool
  t : Bool
deriving DecidableEq, Repr

/-- The calibration result (chapter 1.5). -/
structure CalResult where
  state : CalState
  port : Option Port
  k : Option Nat
  count : Option Nat
  raw : Option Nat
  frames : Option Nat
  meanX : Option Int
  meanY : Option Int
  temp : Option Int
  marks : Option SatMarks
deriving DecidableEq, Repr

/-- The calibration accumulator (R12). -/
structure CalAccumulator where
  n : Nat
  sumX : Int
  sumY : Int
  temp : Option Int
  marks : SatMarks
deriving DecidableEq, Repr

/-- The calibration function: its result, its accumulator and what has been delivered to it and not yet taken. -/
structure Calibration where
  result : CalResult
  acc : CalAccumulator
  /-- Frames delivered to the counting calibration gate, oldest first (R11). -/
  frames : List Frame
  /-- The gate's report on its way (R15). -/
  report : Option GateReport
deriving DecidableEq, Repr

/-- The Frame Scanner (chapter 1.4). -/
structure Scanner where
  interval : ScanInterval
  averaging : Nat
  convX : List Int
  convY : List Int
  convT : List Int
  latest : Option Frame
  /-- The date at which the running scan interval ends; absent while no scan has begun (R18). -/
  arrivalDue : Option Nat
  /-- Frames published; gives each frame its identity (MODEL's own). -/
  frameCount : Nat
deriving DecidableEq, Repr

/-! ### Chapter 2: Level Monitor -/

/-- The level state (chapter 2.2). -/
inductive LevelState where
  | unlevel
  | level
deriving DecidableEq, Repr

/-- Converted tilts with m = x² + y² (chapter 2.2). -/
structure Tilts where
  x : Int
  y : Int
  m : Int
deriving DecidableEq, Repr

/-- The Level Monitor (chapter 2.2). -/
structure LevelMonitor where
  state : LevelState
  debounce : Nat
  tilts : Option Tilts
  satX : Bool
  satY : Bool
  /-- Whether a frame has been taken since the last reset (R30, frame present). -/
  taken : Bool
  /-- Frames delivered and not yet taken, oldest first (R11). -/
  frames : List Frame
deriving DecidableEq, Repr

/-! ### Chapter 3: Thermal Tracker -/

/-- The thermal window state (chapter 3.3). -/
inductive WindowState where
  | inside
  | outside
deriving DecidableEq, Repr

/-- The thermal report of one frame (R40). -/
structure ThermalReport where
  frame : Nat
  temp : Int
  saturated : Bool
  baseline : Option Int
  window : WindowState
  lowReset : Bool
deriving DecidableEq, Repr

/-- The Thermal Tracker (chapter 3.3). The baseline-initialized mark is set exactly when `baseline` is present. -/
structure ThermalTracker where
  temp : Option Int
  saturated : Bool
  baseline : Option Int
  bucket : Int
  lowCount : Nat
  window : WindowState
  /-- Frames delivered and not yet taken, oldest first (R11). -/
  frames : List Frame
deriving DecidableEq, Repr

/-! ### Chapter 4: Survey Clock -/

/-- The Survey Clock (chapter 4.1). The fraction is formed from `lastTick` (R47). -/
structure Clock where
  seconds : Nat
  time : TimeState
  discipline : Discipline
  preload : Option Nat
  lastTick : Nat
  prevPulse : Option Nat
  good : Nat
  miss : Nat
  bad : Nat
deriving DecidableEq, Repr

/-! ### Chapter 6: Correction Model -/

/-- The mode (chapter 6.4). -/
inductive Mode where
  | setup
  | survey
deriving DecidableEq, Repr

/-- The Correction Model (chapter 6.4). -/
structure CorrectionModel where
  groups : Groups
  mode : Mode
  generation : Nat
  storeOutstanding : Bool
deriving DecidableEq, Repr

/-! ### Chapter 7: Reading Engine -/

/-- A queue entry (chapter 7.1). -/
structure QueueEntry where
  ticket : Nat
  port : Port
  occupation : Nat
  n : Nat
  m : Nat
  r : Nat
  k : Nat
deriving DecidableEq, Repr

/-- The six drop counts (chapter 7.2). -/
structure Drops where
  noSignal : Nat
  outOfBand : Nat
  offLevel : Nat
  motion : Nat
  thermal : Nat
  outlier : Nat
deriving DecidableEq, Repr

/-- A completion report held with the tilt settled from it (R101, R102). -/
structure HeldGate where
  report : Completion
  tx : Int
  ty : Int
  spreadX : Int
  spreadY : Int
  /-- The identity of the gate's thermal frame. -/
  thermalFrame : Nat
deriving DecidableEq, Repr

/-- The gate phase (chapter 7.2); an outstanding gate is known by the number of its arm. -/
inductive GatePhase where
  | outstanding (gate : Nat)
  | awaiting (held : HeldGate)
deriving DecidableEq, Repr

/-- The reading's states, with the date its timer is due (chapter 7.2). -/
inductive ReadingState where
  | settling (due : Nat)
  | waitLevel (due : Nat)
  | gating (phase : GatePhase)
deriving DecidableEq, Repr

/-- The reading accumulators (R105). -/
structure Sums where
  s : Int
  least : Int
  greatest : Int
  gcal : Int
  tilt : Int
  thermal : Int
  tide : Int
  tx : Int
  ty : Int
  temp : Int
  time : Nat
deriving DecidableEq, Repr

/-- The four flags of a reading (chapter 7.2). -/
structure ReadingFlags where
  offscale : Bool
  timeStepped : Bool
  clockInternal : Bool
  baselineReset : Bool
deriving DecidableEq, Repr

/-- The in-flight reading (chapter 7.2). -/
structure Reading where
  ticket : Nat
  port : Port
  occupation : Nat
  n : Nat
  m : Nat
  r : Nat
  k : Nat
  station : Nat
  generation : Nat
  state : ReadingState
  attempts : Nat
  accepted : Nat
  drops : Drops
  firstGateArmed : Bool
  sums : Sums
  flags : ReadingFlags
deriving DecidableEq, Repr

/-- The gate accumulator (R100). -/
structure GateAccumulator where
  n : Nat
  sumX : Int
  sumY : Int
  leastX : Int
  greatestX : Int
  leastY : Int
  greatestY : Int
  thermalFrame : Option Nat
deriving DecidableEq, Repr

/-- A frame delivered to the engine's gate accumulator, with the gate it belongs to (R11, R100). -/
structure GateFrame where
  gate : Nat
  frame : Frame
deriving DecidableEq, Repr

/-- The Reading Engine (chapter 7.1), with what has been delivered to it and not yet taken, oldest first. -/
structure Engine where
  queue : List QueueEntry
  reading : Option Reading
  nextTicket : Nat
  latestReport : Option ThermalReport
  /-- The thermal reports kept from the arm of the outstanding gate (R102). -/
  kept : List ThermalReport
  acc : GateAccumulator
  frames : List GateFrame
  levelNotices : List LevelState
  reports : List GateReport
  thermalReports : List ThermalReport
  stepNotices : Nat
deriving DecidableEq, Repr

/-! ### Chapter 8: stations and occupations -/

/-- A station entry (chapter 8.1). -/
structure Station where
  number : Nat
  longitude : Int
  factor : Option Nat
  count : Nat
  openOccupation : Option Nat
deriving DecidableEq, Repr

/-- The outcome of a result (R107). -/
inductive ResultOutcome where
  | done
  | short
deriving DecidableEq, Repr

/-- A result (R107). -/
structure ReadingResult where
  ticket : Nat
  occupation : Nat
  station : Nat
  outcome : ResultOutcome
  value : Int
  meanCal : Int
  meanTilt : Int
  meanThermal : Int
  meanTide : Int
  spread : Nat
  accepted : Nat
  attempts : Nat
  drops : Drops
  meanTx : Int
  meanTy : Int
  meanTemp : Int
  tideTime : Nat
  n : Nat
  m : Nat
  k : Nat
  generation : Nat
  flags : ReadingFlags
deriving DecidableEq, Repr

/-- The states of an occupation (chapter 8.2). -/
inductive OccState where
  | isOpen
  | closed
  | staged
deriving DecidableEq, Repr

/-- An occupation entry (chapter 8.2). -/
structure Occupation where
  number : Nat
  station : Nat
  state : OccState
  openTime : Option Nat
  closeTime : Option Nat
  results : List ReadingResult
deriving DecidableEq, Repr

/-- The Occupation Table with its counter and the archive queue, oldest closed first (chapter 8.2, R131). -/
structure OccupationTable where
  entries : List Occupation
  counter : Nat
  archiveQueue : List Nat
deriving DecidableEq, Repr

/-! ### Chapter 9: Survey Archive -/

/-- The archive states (R139). -/
inductive ArchiveState where
  | mounting
  | ready
  | full
  | fault
deriving DecidableEq, Repr

/-- The record of one closed occupation on its way to a page (R138). -/
structure StagedRecord where
  occupation : Nat
  station : Nat
  longitude : Int
  factor : Option Nat
  openTime : Option Nat
  closeTime : Nat
  results : List ReadingResult
deriving DecidableEq, Repr

/-- One staging buffer (R140). -/
inductive StagingBuffer where
  | free
  | loaded (r : StagedRecord)
  | programming (r : StagedRecord)
deriving DecidableEq, Repr

/-- The names of the two staging buffers. -/
inductive BufferId where
  | b0
  | b1
deriving DecidableEq, Repr

/-- The flash engine's activity (chapter 9.1). -/
inductive EngineActivity where
  | idle
  | program
  | store
  | load
  | mount
deriving DecidableEq, Repr

/-- The archive's bookkeeping (chapter 9.1). -/
structure Archive where
  state : ArchiveState
  writePage : Nat
  failureCount : Nat
  buffer0 : StagingBuffer
  buffer1 : StagingBuffer
  /-- The LOADED buffers, earlier-loaded first. -/
  loadOrder : List BufferId
  activity : EngineActivity
  cursorA : Nat
  cursorB : Nat
deriving DecidableEq, Repr

/-- The stored image of the model, with a valid completion marker (R88). -/
structure ModelImage where
  groups : Groups
  generation : Nat
deriving DecidableEq, Repr

/-- The nonvolatile memory: the archive pages byte by byte (page p at addresses 512 p to 512 p + 511, a byte that is
not listed reading 0xFF as the erase step leaves it, R177), and the stored model image, absent while no valid completion
marker stands (R88). -/
structure Flash where
  cells : List Host.Cell
  image : Option ModelImage
deriving DecidableEq, Repr

/-! ### Chapter 10: ports, events, start-up -/

/-- The eight event flags (chapter 10.3). -/
inductive EventFlag where
  | rdon
  | levl
  | mode
  | clck
  | arch
  | peer
  | thrm
  | rset
deriving DecidableEq, Repr

/-- One value for each event flag. -/
structure PerFlag (α : Type) where
  rdon : α
  levl : α
  mode : α
  clck : α
  arch : α
  peer : α
  thrm : α
  rset : α
deriving DecidableEq, Repr

/-- RDON outcome (R111). -/
inductive RdonOutcome where
  | done
  | short
  | failed
  | aborted
deriving DecidableEq, Repr

/-- RDON cause (R111). -/
inductive RdonCause where
  | notLevel
  | tooFew
  | queued
  | inFlight
deriving DecidableEq, Repr

/-- LEVL cause (R24). -/
inductive LevlCause where
  | entered
  | exceeded
  | saturated
  | reinit
deriving DecidableEq, Repr

/-- MODE kind (R84). -/
inductive ModeKind where
  | setupEntered
  | surveyEntered
  | stored
  | storeFailed
deriving DecidableEq, Repr

/-- CLCK kind (R54). -/
inductive ClckKind where
  | discipline
  | loaded
  | stepped
deriving DecidableEq, Repr

/-- CLCK cause (R54). -/
inductive ClckCause where
  | qualified
  | misses
  | badPulses
deriving DecidableEq, Repr

/-- ARCH kind (R150). -/
inductive ArchKind where
  | committed
  | full
  | fault
  | resumed
  | released
  | mounted
deriving DecidableEq, Repr

/-- THRM cause (R41). -/
inductive ThrmCause where
  | range
  | saturated
  | reinit
deriving DecidableEq, Repr

/-- The last reset's cause (R171, R173). -/
inductive ResetCause where
  | power
  | line
  | restart (p : Port)
deriving DecidableEq, Repr

/-- The detail a posting carries (R111, R24, R84, R54, R150, R169, R41, R173). -/
inductive Detail where
  | rdon (ticket : Nat) (outcome : RdonOutcome) (cause : Option RdonCause) (occupation accepted attempts : Nat)
  | levl (state : LevelState) (cause : LevlCause) (tilts : Option Tilts)
  | mode (kind : ModeKind) (mode : Mode) (generation : Nat)
  | clck (kind : ClckKind) (discipline : Discipline) (cause : Option ClckCause) (advanced : Option Bool)
      (seconds : Nat) (step : Option Int)
  | arch (kind : ArchKind) (state : ArchiveState) (occupation page : Option Nat) (writePage queueLength : Nat)
  | peer (sender : Port) (note : List Byte)
  | thrm (state : WindowState) (cause : ThrmCause) (temp baseline : Option Int)
  | rset (cause : ResetCause) (mode : Mode) (generation : Nat)
deriving DecidableEq, Repr

/-- One event flag: the count of postings not acknowledged, and the latest detail (R163). -/
structure Flag where
  count : Nat
  detail : Option Detail
deriving DecidableEq, Repr

/-- The acknowledge policies (R164). -/
inductive AckPolicy where
  | readClears
  | explicit
deriving DecidableEq, Repr

/-- The line modes (R164). -/
inductive LineMode where
  | level
  | pulse
deriving DecidableEq, Repr

/-- A port's configuration (R164). -/
structure PortConfig where
  mask : PerFlag Bool
  policy : AckPolicy
  line : LineMode
deriving DecidableEq, Repr

/-- One port (chapter 10). -/
structure PortState where
  /-- Bytes of the request frame in progress; empty while the receiver hunts (R160). -/
  received : List Byte
  /-- The bytes of the response not yet sent in full; while it is present the receiver ignores every byte (R162). -/
  response : Option (List Byte)
  /-- The response's place: how many of its bytes have gone (R158). -/
  sent : Nat
  /-- The byte last driven on A_DOUT or B_TXD; absent before the first (R158, R159). -/
  driven : Option Byte
  flags : PerFlag Flag
  config : PortConfig
  /-- The pending pulse count (R165). -/
  pulses : Nat
  /-- The attention line is asserted. -/
  atn : Bool
  /-- Pulses given on the line (MODEL's own: a record of the pin, which rests released after each pulse). -/
  pulsesGiven : Nat
deriving DecidableEq, Repr

/-- The bytes the two masters are still to send, first to arrive first (R158, R159). Like the queue of commands, they stand
outside the part (MODEL's own, log entry 16). -/
structure Incoming where
  a : List Byte
  b : List Byte
deriving DecidableEq, Repr

/-- The start-up phases (R170). -/
inductive Phase where
  | load
  | mount
  | restart
  | ready
deriving DecidableEq, Repr

/-- The last store outcome, with the generation of that store (R171). -/
inductive StoreOutcome where
  | none
  | stored (generation : Nat)
  | failed (generation : Nat)
deriving DecidableEq, Repr

/-- The restart timer, with the port whose RSTR started it (R172). -/
structure RestartTimer where
  port : Port
  due : Nat
deriving DecidableEq, Repr

/-- Start-up and reset bookkeeping (chapter 10.6). -/
structure StartUp where
  phase : Phase
  lastReset : ResetCause
  lastStore : StoreOutcome
  restart : Option RestartTimer
deriving DecidableEq, Repr

/-- The whole part. -/
structure State where
  /-- REFCLK rising edges since the last POWER or LINE reset: the count in which dates are measured (R47). -/
  now : Nat
  gate : SensorGate
  cal : Calibration
  scan : Scanner
  level : LevelMonitor
  thermal : ThermalTracker
  clock : Clock
  model : CorrectionModel
  engine : Engine
  stations : List Station
  occupations : OccupationTable
  archive : Archive
  flash : Flash
  portA : PortState
  portB : PortState
  startUp : StartUp
  /-- The bytes on their way to the two ports. -/
  incoming : Incoming
  /-- The commands waiting, first in, first out. -/
  pending : List Instr
deriving DecidableEq, Repr

/-- Why a command cannot be run to a next state. Each is raised only in a state that the spec's own rules exclude, and
each is safe: the model stops where the spec says the part never stands (log entry 5). -/
inductive Fault where
  /-- A queue entry names no occupation of the table (raised by TAKE_HEAD; R134 excludes it), or the archive queue names
  none (raised by STAGING; R131 excludes it). Safe. -/
  | occupationMissing
  /-- An occupation names no station of the table (raised when a gate's tide is computed, and by STAGING; R122 excludes
  it). Safe. -/
  | stationMissing
  /-- A lookup finds no enabled calibration slot (raised by gate evaluation; R74 and R81 exclude it). Safe. -/
  | noCalibrationInterval
  /-- A gate is settled with no frame taken and no frame in force (raised by COMPLETION_REPORT; R101 excludes it).
  Safe. -/
  | noFrameInForce
  /-- An occupation in the archive queue has no close time (raised by STAGING; R130 excludes it). Safe. -/
  | closeTimeMissing
  /-- A gate reaches the thermal correction with no baseline in its thermal report (raised by gate evaluation; R44
  excludes it). Safe. -/
  | noBaseline
deriving DecidableEq, Repr

/-- Why a command has no meaning. -/
inductive Refusal where
  /-- The command has no meaning in this model yet (raised by exec's refused arms; safe). No arm raises it. -/
  | notModelled (mnemonic : String)
deriving DecidableEq, Repr

/-- The Sensor Gate after every reset (R17). -/
def SensorGate.reset : SensorGate :=
  { state := .idle, armer := none, k := 10, edgeCount := 0, refCount := 0, start := none, stop := none, stepped := false,
    limitDue := none, armCount := 0 }

/-- The empty calibration result (R17). -/
def CalResult.none : CalResult :=
  { state := .empty, port := Option.none, k := Option.none, count := Option.none, raw := Option.none,
    frames := Option.none, meanX := Option.none, meanY := Option.none, temp := Option.none, marks := Option.none }

/-- The empty calibration accumulator (R12). -/
def CalAccumulator.none : CalAccumulator := { n := 0, sumX := 0, sumY := 0, temp := Option.none, marks := ⟨false, false, false⟩ }

/-- The calibration function after every reset (R17). -/
def Calibration.reset : Calibration := { result := .none, acc := .none, frames := [], report := Option.none }

/-- The Level Monitor after every reset (R27). -/
def LevelMonitor.reset : LevelMonitor :=
  { state := .unlevel, debounce := 0, tilts := none, satX := false, satY := false, taken := false, frames := [] }

/-- The Thermal Tracker after a POWER or LINE reset (R45). -/
def ThermalTracker.reset : ThermalTracker :=
  { temp := none, saturated := false, baseline := none, bucket := 0, lowCount := 0, window := .inside, frames := [] }

/-- The Survey Clock after a POWER or LINE reset (R60). -/
def Clock.reset : Clock :=
  { seconds := 0, time := .unset, discipline := .internal, preload := none, lastTick := 0, prevPulse := none, good := 0,
    miss := 0, bad := 0 }

/-- The empty gate accumulator (R100). -/
def GateAccumulator.none : GateAccumulator :=
  { n := 0, sumX := 0, sumY := 0, leastX := 0, greatestX := 0, leastY := 0, greatestY := 0, thermalFrame := Option.none }

/-- The Reading Engine after a POWER or LINE reset (R117). -/
def Engine.reset : Engine :=
  { queue := [], reading := none, nextTicket := 1, latestReport := none, kept := [], acc := .none, frames := [],
    levelNotices := [], reports := [], thermalReports := [], stepNotices := 0 }

/-- The archive after a POWER or LINE reset (R156). -/
def Archive.reset : Archive :=
  { state := .mounting, writePage := 0, failureCount := 0, buffer0 := .free, buffer1 := .free, loadOrder := [],
    activity := .load, cursorA := 0, cursorB := 0 }

/-- The same value for each event flag. -/
def PerFlag.all {α : Type} (x : α) : PerFlag α := ⟨x, x, x, x, x, x, x, x⟩

/-- A port after a POWER or LINE reset (R168, R173). -/
def PortState.reset : PortState :=
  { received := [], response := none, sent := 0, driven := none, flags := .all ⟨0, none⟩,
    config := ⟨.all true, .explicit, .level⟩, pulses := 0, atn := false, pulsesGiven := 0 }

/-- The Frame Scanner before its first scan after a POWER or LINE reset (R18). -/
def Scanner.reset : Scanner :=
  { interval := .eighth, averaging := 2, convX := [], convY := [], convT := [], latest := none, arrivalDue := none,
    frameCount := 0 }

/-- The part right after a POWER or LINE reset with the given cause, over the flash it finds (R17, R18, R27, R45, R60,
R117, R136, R156, R168, R170, R173), with the given bytes on their way and the given commands waiting. -/
def State.afterReset (cause : ResetCause) (flash : Flash) (incoming : Incoming) (pending : List Instr) : State :=
  { now := 0
    gate := .reset
    cal := .reset
    scan := .reset
    level := .reset
    thermal := .reset
    clock := .reset
    model := ⟨.defaults, .setup, 0, false⟩
    engine := .reset
    stations := []
    occupations := ⟨[], 1, []⟩
    archive := .reset
    flash := flash
    portA := .reset
    portB := .reset
    startUp := ⟨.load, cause, .none, none⟩
    incoming := incoming
    pending := pending }

/-- The part right after its first POWER reset: every archive page ERASED and no stored image (log entry 1). -/
def State.reset : State := .afterReset .power ⟨[], none⟩ ⟨[], []⟩ []

end Sys2Proof.Machine
end

