-- ==== Sys2Proof/Machine/Ops.lean ====
section
/-!
DEFINITION. The shared operations: rounding and clamping (00_scope.md 6.3, 6.6), the flash cells (R138, R177), the two
ports of the state, and the dates of timers.
-/

namespace Sys2Proof.Machine

/-! ### Arithmetic -/

/-- n / d rounded to the nearest integer, ties away from zero (00_scope.md 6.3). -/
def roundDiv (n : Int) (d : Nat) : Int :=
  if 0 ≤ n then (((2 * n.toNat + d) / (2 * d) : Nat) : Int) else -((((2 * (-n).toNat + d) / (2 * d) : Nat)) : Int)

/-- A value clamped to the nearer end of a range (00_scope.md 6.6). -/
def clampInt (lo hi v : Int) : Int := if v < lo then lo else if hi < v then hi else v

/-- A value clamped to the nearer end of a range of naturals (00_scope.md 6.6). -/
def clampNat (lo hi v : Nat) : Nat := if v < lo then lo else if hi < v then hi else v

/-- A count increased by one and held at 255 (R163, R165, R127). -/
def heldSucc (n : Nat) : Nat := if n < 255 then n + 1 else 255

/-- The widest value of a correction component (00_scope.md 6.1). -/
def clampCorrection (v : Int) : Int := clampInt (-50000000) 50000000 v

/-- The widest calibrated value or sample (00_scope.md 6.1). -/
def clampGravity (v : Int) : Int := clampInt (-2000000000) 2000000000 v

/-! ### Flash cells -/

/-- What an address that is not listed reads as: the erase step leaves every byte at 0xFF (R177). -/
def erasedByte : Byte := 0xFF

/-- The canonical form: addresses strictly rising, no entry equal to what an unlisted address reads as. -/
abbrev CellsWf (m : List Host.Cell) : Prop :=
  List.Pairwise (fun c d : Host.Cell => c.1 < d.1) m ∧ ∀ c ∈ m, c.2 ≠ erasedByte

/-- One byte of flash. -/
def readCell : List Host.Cell → Nat → Byte
  | [], _ => erasedByte
  | (b, v) :: m, a => if b = a then v else readCell m a

/-- The cells of a run of bytes starting at an address, leaving out the bytes that read as erased. -/
def cellsOf (a : Nat) : List Byte → List Host.Cell
  | [] => []
  | v :: vs => if v = erasedByte then cellsOf (a + 1) vs else (a, v) :: cellsOf (a + 1) vs

/-- A run of bytes written over an address range. -/
def writeRun (m : List Host.Cell) (a : Nat) (vs : List Byte) : List Host.Cell :=
  m.filter (fun c => decide (c.1 < a)) ++ cellsOf a vs ++ m.filter (fun c => decide (a + vs.length ≤ c.1))

/-- The erase step of an address range: every byte reads as erased afterwards (R138, R177). -/
def eraseRun (m : List Host.Cell) (a n : Nat) : List Host.Cell :=
  m.filter (fun c => decide (c.1 < a)) ++ m.filter (fun c => decide (a + n ≤ c.1))

/-- n bytes from an address, out of rising cells none of which lies below it. -/
def fillRun : Nat → Nat → List Host.Cell → List Byte
  | 0, _, _ => []
  | n + 1, a, [] => erasedByte :: fillRun n (a + 1) []
  | n + 1, a, (b, v) :: m => if b = a then v :: fillRun n (a + 1) m else erasedByte :: fillRun n (a + 1) ((b, v) :: m)

/-- The n bytes from an address on. -/
def readRun (m : List Host.Cell) (a n : Nat) : List Byte := fillRun n a (m.filter (fun c => decide (a ≤ c.1)))

/-- Bytes in an archive page (R138). -/
def pageBytes : Nat := 512

/-- Archive pages (R138). -/
def pageCount : Nat := 4096

/-! ### The two ports of the state -/

/-- The state of a port. -/
def State.port (s : State) : Port → PortState
  | .a => s.portA
  | .b => s.portB

/-- The state with one port replaced. -/
def State.setPort (s : State) (p : Port) (q : PortState) : State :=
  match p with
  | .a => { s with portA := q }
  | .b => { s with portB := q }

/-- The bytes on their way to a port. -/
def Incoming.get (i : Incoming) : Port → List Byte
  | .a => i.a
  | .b => i.b

/-- The bytes on their way to one port replaced. -/
def Incoming.set (i : Incoming) (p : Port) (l : List Byte) : Incoming :=
  match p with
  | .a => { i with a := l }
  | .b => { i with b := l }

/-- The read cursor of a port (chapter 9.7). -/
def Archive.cursor (a : Archive) : Port → Nat
  | .a => a.cursorA
  | .b => a.cursorB

/-- The archive with one port's read cursor replaced (R152, R153). -/
def Archive.setCursor (a : Archive) (p : Port) (n : Nat) : Archive :=
  match p with
  | .a => { a with cursorA := n }
  | .b => { a with cursorB := n }

/-! ### Timers -/

/-- The date a number of seconds from now. -/
def State.inSeconds (s : State) (n : Int) : Nat := s.now + n.toNat * Config.periodsPerSecond

/-- A date has come. -/
def State.reached (s : State) (due : Nat) : Bool := decide (due ≤ s.now)

/-! ### Lists -/

/-- A counter's next value that no holder holds, in at most `fuel` advances (R93, R125). -/
def advancePast (wrap : Nat → Nat) (held : List Nat) : Nat → Nat → Nat
  | 0, v => v
  | fuel + 1, v => if held.contains v then advancePast wrap held fuel (wrap v) else v

end Sys2Proof.Machine
end

