-- ==== Sys2Proof/Machine/Operands.lean ====
section
/-!
DEFINITION. How fields are carried (R175): little-endian fields read out of a payload and written into one, the position
bytes of enumerated values, optional fields with their presence byte, and the typed details, records and frames of
chapter 11.
-/

namespace Sys2Proof.Machine

/-! ### Reading fields -/

/-- The byte at an offset. -/
def u8At (l : List Byte) (i : Nat) : Nat := (l.getD i 0).toNat

/-- The unsigned 16-bit field at an offset. -/
def u16At (l : List Byte) (i : Nat) : Nat := u8At l i + 256 * u8At l (i + 1)

/-- The unsigned 32-bit field at an offset. -/
def u32At (l : List Byte) (i : Nat) : Nat := u16At l i + 65536 * u16At l (i + 2)

/-- A 32-bit pattern read as signed. -/
def signed32 (n : Nat) : Int := if n < 2147483648 then (n : Int) else (n : Int) - 4294967296

/-- The signed 32-bit field at an offset. -/
def s32At (l : List Byte) (i : Nat) : Int := signed32 (u32At l i)

/-- A byte that must be OFF (0) or ON (1). -/
def markAt (l : List Byte) (i : Nat) : Option Bool :=
  match u8At l i with
  | 0 => some false
  | 1 => some true
  | _ => none

/-! ### Writing fields -/

/-- A natural number in a number of bytes, least significant first (00_scope.md 6.5). -/
def leNat : Nat → Nat → List Byte
  | 0, _ => []
  | w + 1, n => byte (n % 256) :: leNat w (n / 256)

/-- An integer in a number of bytes, two's complement, least significant first. -/
def leInt (w : Nat) (v : Int) : List Byte := leNat w (v % ((256 ^ w : Nat) : Int)).toNat

/-- Unsigned 8-bit field. -/
abbrev u8 (n : Nat) : List Byte := leNat 1 n
/-- Unsigned 16-bit field. -/
abbrev u16 (n : Nat) : List Byte := leNat 2 n
/-- Unsigned 32-bit field. -/
abbrev u32 (n : Nat) : List Byte := leNat 4 n
/-- Unsigned 64-bit field. -/
abbrev u64 (n : Nat) : List Byte := leNat 8 n
/-- Signed 32-bit field. -/
abbrev s32 (v : Int) : List Byte := leInt 4 v
/-- Signed 64-bit field. -/
abbrev s64 (v : Int) : List Byte := leInt 8 v

/-- An OFF-or-ON field, OFF 0 and ON 1 (R175), or a field that its rule lists as yes or no, or as set or clear, which the model
writes no 0 and yes 1, clear 0 and set 1 (DESIGN CHOICE, log entry 22). -/
def mark (b : Bool) : List Byte := u8 (if b then 1 else 0)

/-- An optional field: a presence byte, then the value bytes, 0 when absent (R175). -/
def opt {α : Type} (enc : α → List Byte) (width : Nat) : Option α → List Byte
  | some x => u8 1 ++ enc x
  | none => u8 0 ++ leNat width 0

/-- The value bytes of a field whose presence is told by a gathered presence byte, 0 when absent (R175). -/
def bare {α : Type} (enc : α → List Byte) (width : Nat) : Option α → List Byte
  | some x => enc x
  | none => leNat width 0

/-- Presence marks gathered into one byte, bit 0 the first (R175). -/
def presence : List Bool → Nat
  | [] => 0
  | b :: bs => (if b then 1 else 0) + 2 * presence bs

/-! ### Enumerated values, by their position in the list that defines them (R175) -/

def Port.code : Port → Nat
  | .a => 0
  | .b => 1

def TimeState.code : TimeState → Nat
  | .unset => 0
  | .set => 1

def Discipline.code : Discipline → Nat
  | .internal => 0
  | .pulse => 1

def Mode.code : Mode → Nat
  | .setup => 0
  | .survey => 1

def LevelState.code : LevelState → Nat
  | .unlevel => 0
  | .level => 1

def WindowState.code : WindowState → Nat
  | .inside => 0
  | .outside => 1

def CalState.code : CalState → Nat
  | .empty => 0
  | .pending => 1
  | .complete => 2
  | .timeout => 3

def OccState.code : OccState → Nat
  | .isOpen => 0
  | .closed => 1
  | .staged => 2

def ArchiveState.code : ArchiveState → Nat
  | .mounting => 0
  | .ready => 1
  | .full => 2
  | .fault => 3

def EngineActivity.code : EngineActivity → Nat
  | .idle => 0
  | .program => 1
  | .store => 2
  | .load => 3
  | .mount => 4

def StagingBuffer.code : StagingBuffer → Nat
  | .free => 0
  | .loaded _ => 1
  | .programming _ => 2

def BufferId.code : BufferId → Nat
  | .b0 => 0
  | .b1 => 1

def Phase.code : Phase → Nat
  | .load => 0
  | .mount => 1
  | .restart => 2
  | .ready => 3

def RdonOutcome.code : RdonOutcome → Nat
  | .done => 0
  | .short => 1
  | .failed => 2
  | .aborted => 3

def RdonCause.code : Option RdonCause → Nat
  | none => 0
  | some .notLevel => 1
  | some .tooFew => 2
  | some .queued => 3
  | some .inFlight => 4

def LevlCause.code : LevlCause → Nat
  | .entered => 0
  | .exceeded => 1
  | .saturated => 2
  | .reinit => 3

def ModeKind.code : ModeKind → Nat
  | .setupEntered => 0
  | .surveyEntered => 1
  | .stored => 2
  | .storeFailed => 3

def ClckKind.code : ClckKind → Nat
  | .discipline => 0
  | .loaded => 1
  | .stepped => 2

def ClckCause.code : Option ClckCause → Nat
  | none => 0
  | some .qualified => 1
  | some .misses => 2
  | some .badPulses => 3

def ArchKind.code : ArchKind → Nat
  | .committed => 0
  | .full => 1
  | .fault => 2
  | .resumed => 3
  | .released => 4
  | .mounted => 5

def ThrmCause.code : ThrmCause → Nat
  | .range => 0
  | .saturated => 1
  | .reinit => 2

def ResetCause.code : ResetCause → Nat
  | .power => 0
  | .line => 1
  | .restart _ => 2

/-- The port whose RSTR caused a reset, absent for POWER and LINE (R171, R173). -/
def ResetCause.port : ResetCause → Option Port
  | .restart p => some p
  | _ => none

def ResultOutcome.code : ResultOutcome → Nat
  | .done => 0
  | .short => 1

def AckPolicy.code : AckPolicy → Nat
  | .readClears => 0
  | .explicit => 1

def LineMode.code : LineMode → Nat
  | .level => 0
  | .pulse => 1

def ScanInterval.code : ScanInterval → Nat
  | .thirtySecond => 0
  | .eighth => 1
  | .half => 2
  | .two => 3

def StoreOutcome.code : StoreOutcome → Nat
  | .none => 0
  | .stored _ => 1
  | .failed _ => 2

/-- The generation of the last store, absent when there was none (R171). -/
def StoreOutcome.generation : StoreOutcome → Option Nat
  | .none => Option.none
  | .stored g => some g
  | .failed g => some g

/-- The event flag at a position (R167, the order of chapter 10.3). -/
def EventFlag.ofCode : Nat → Option EventFlag
  | 0 => some .rdon
  | 1 => some .levl
  | 2 => some .mode
  | 3 => some .clck
  | 4 => some .arch
  | 5 => some .peer
  | 6 => some .thrm
  | 7 => some .rset
  | _ => none

/-! ### Status words and causes -/

/-- The status words (chapter 10.2). -/
inductive Status where
  | okay | clmp | same | busy | full | deny | mode | args | none | shut | held | pend | time | badm | empt | fram | unkn
deriving DecidableEq, Repr

/-- Four ASCII letters. -/
def letters (a b c d : Nat) : List Byte := [byte a, byte b, byte c, byte d]

/-- The four letters of a status word. -/
def Status.name : Status → List Byte
  | .okay => letters 79 75 65 89
  | .clmp => letters 67 76 77 80
  | .same => letters 83 65 77 69
  | .busy => letters 66 85 83 89
  | .full => letters 70 85 76 76
  | .deny => letters 68 69 78 89
  | .mode => letters 77 79 68 69
  | .args => letters 65 82 71 83
  | .none => letters 78 79 78 69
  | .shut => letters 83 72 85 84
  | .held => letters 72 69 76 68
  | .pend => letters 80 69 78 68
  | .time => letters 84 73 77 69
  | .badm => letters 66 65 68 77
  | .empt => letters 69 77 80 84
  | .fram => letters 70 82 65 77
  | .unkn => letters 85 78 75 78

/-- The causes of a BUSY answer (R174). -/
inductive BusyCause where
  | starting | reading | store | calibration | staged | programming
deriving DecidableEq, Repr

/-- The cause byte of a BUSY answer (R174). -/
def BusyCause.code : BusyCause → Nat
  | .starting => 0
  | .reading => 1
  | .store => 2
  | .calibration => 3
  | .staged => 4
  | .programming => 5

/-! ### Frames -/

/-- The sync byte of every frame (R174). -/
def syncByte : Byte := 0xC5

/-- The byte Port A drives while it has no response to send (R158, R174). -/
def fillByte : Byte := 0x00

/-- The sum of a run of bytes, each taken as unsigned. -/
def byteSum (l : List Byte) : Nat := l.foldl (fun a b => a + b.toNat) 0

/-- The byte that makes a frame's byte sum a multiple of 256 (chapter 10.2). -/
def checkByte (l : List Byte) : Byte := byte ((256 - byteSum l % 256) % 256)

/-- A whole frame: sync, tag, name, length, payload, check (chapter 11.1). -/
def frameBytes (tag : Byte) (name payload : List Byte) : List Byte :=
  let body := syncByte :: tag :: name ++ u16 payload.length ++ payload
  body ++ [checkByte body]

/-- The response frame of an answer: the request's tag, the status word's letters, the payload (R174). -/
def responseFrame (tag : Byte) (st : Status) (payload : List Byte) : List Byte := frameBytes tag st.name payload

/-! ### Event details (chapter 11.3) -/

/-- The bytes of a detail. -/
def Detail.bytes : Detail → List Byte
  | .rdon ticket outcome cause occupation accepted attempts =>
    u16 ticket ++ u8 outcome.code ++ u8 (RdonCause.code cause) ++ u32 occupation ++ u8 accepted ++ u8 attempts
  | .levl state cause tilts =>
    u8 state.code ++ u8 cause.code ++ mark tilts.isSome ++ bare s32 4 (tilts.map (·.x)) ++ bare s32 4 (tilts.map (·.y))
  | .mode kind md generation => u8 kind.code ++ u8 (Mode.code md) ++ u16 generation
  | .clck kind discipline cause advanced seconds step =>
    u8 kind.code ++ u8 discipline.code ++ u8 (ClckCause.code cause)
      ++ u8 (match advanced with | none => 0 | some false => 1 | some true => 2) ++ u32 seconds ++ s64 (step.getD 0)
  | .arch kind state occupation page writePage queueLength =>
    u8 kind.code ++ u8 state.code ++ u8 (presence [occupation.isSome, page.isSome]) ++ u8 queueLength
      ++ bare u32 4 occupation ++ bare u16 2 page ++ u16 writePage
  | .peer sender note => u8 (Port.code sender) ++ note
  | .thrm state cause temp baseline =>
    u8 state.code ++ u8 cause.code ++ u8 (presence [temp.isSome, baseline.isSome]) ++ bare s32 4 temp ++ bare s32 4 baseline
  | .rset cause md generation =>
    u8 cause.code ++ u8 (match cause.port with | some p => Port.code p | none => 2) ++ u8 (Mode.code md) ++ u16 generation

/-! ### Result, station and page records (chapters 11.4, 11.5) -/

/-- The drop counts in order. -/
def Drops.bytes (d : Drops) : List Byte :=
  u8 d.noSignal ++ u8 d.outOfBand ++ u8 d.offLevel ++ u8 d.motion ++ u8 d.thermal ++ u8 d.outlier

/-- The four flags of a result, gathered with bit 0 OFFSCALE. -/
def ReadingFlags.bits (f : ReadingFlags) : Nat := presence [f.offscale, f.timeStepped, f.clockInternal, f.baselineReset]

/-- The archive result: offsets 0..57 of a result record. -/
def ReadingResult.archiveBytes (r : ReadingResult) : List Byte :=
  u16 r.ticket ++ u16 r.generation ++ s32 r.value ++ s32 r.meanCal ++ s32 r.meanTilt ++ s32 r.meanThermal ++ s32 r.meanTide
    ++ u32 r.spread ++ s32 r.meanTx ++ s32 r.meanTy ++ s32 r.meanTemp ++ u32 r.tideTime ++ u8 r.outcome.code
    ++ u8 r.flags.bits ++ u8 r.n ++ u8 r.m ++ u8 r.k ++ u8 r.accepted ++ u8 r.attempts ++ r.drops.bytes ++ u8 0

/-- The result record, 64 bytes. -/
def ReadingResult.bytes (r : ReadingResult) : List Byte := r.archiveBytes ++ u32 r.occupation ++ u16 r.station

/-- The five fields of a station entry, in the order of the station record. -/
def Station.bytes (t : Station) : List Byte :=
  u16 t.number ++ s32 t.longitude ++ opt u16 2 t.factor ++ u8 t.count ++ opt u32 4 t.openOccupation

/-- Offsets 0..503 of an archive page (R138, chapter 11.5). -/
def StagedRecord.bytes (r : StagedRecord) : List Byte :=
  u32 r.occupation ++ u16 r.station ++ u8 (presence [r.factor.isSome, r.openTime.isSome]) ++ u8 r.results.length
    ++ s32 r.longitude ++ bare u16 2 r.factor ++ u16 0 ++ bare u32 4 r.openTime ++ u32 r.closeTime
    ++ (r.results.flatMap ReadingResult.archiveBytes) ++ List.replicate (464 - 58 * r.results.length) 0
    ++ List.replicate 16 0

/-- The completion marker of a page (chapter 11.5). -/
def completionMarker : List Byte := u32 0xC35AA53C

/-- The 512 bytes of a page that holds a record: the record, the page check and the completion marker (R177). -/
def StagedRecord.page (r : StagedRecord) : List Byte := r.bytes ++ u32 (byteSum r.bytes) ++ completionMarker

/-! ### Model group records (chapter 11.6) -/

def CaliSlot.bytes (c : CaliSlot) : List Byte := mark c.enabled ++ u32 c.start ++ u32 c.stop ++ s32 c.base ++ s32 c.factor

def TiltGroup.bytes (g : TiltGroup) : List Byte :=
  s32 g.zeroX ++ s32 g.zeroY ++ s32 g.sensX ++ s32 g.sensY ++ s32 g.threshold ++ s32 g.hysteresis ++ u8 g.debounce
    ++ s32 g.motionLimit

def ThrmGroup.bytes (g : ThrmGroup) : List Byte :=
  s32 g.sens ++ s32 g.offset ++ s32 g.setPoint ++ s32 g.window ++ s32 g.kT ++ s32 g.kG ++ u16 g.nUp ++ u16 g.nDown
    ++ s32 g.bucketLimit ++ s32 g.step ++ u8 g.lowFrames ++ mark g.followAlways

def TideSlot.bytes (t : TideSlot) : List Byte :=
  mark t.enabled ++ u8 t.species ++ u32 t.speed ++ u32 t.phase ++ s32 t.amplitude

def TidrGroup.bytes (g : TidrGroup) : List Byte := s32 g.longitude ++ u32 g.epoch

def GateGroup.bytes (g : GateGroup) : List Byte :=
  u32 g.rawLow ++ u32 g.rawHigh ++ s32 g.gateLimit ++ s32 g.settle ++ s32 g.levelWait ++ s32 g.outlierLimit ++ s32 g.g0

def ScanGroup.bytes (g : ScanGroup) : List Byte := u8 g.interval.code ++ u8 g.averaging

def Window.bytes (w : Window) : List Byte := u16 w.first ++ u16 w.last ++ mark w.writeProtect

/-- The stored record of a group. -/
def Groups.record (g : Groups) : GroupId → List Byte
  | .cali i => (g.cali.get i).bytes
  | .tilt => g.tilt.bytes
  | .thrm => g.thrm.bytes
  | .tide j => (g.tide.get j).bytes
  | .tidr => g.tidr.bytes
  | .gate => g.gate.bytes
  | .scan => g.scan.bytes
  | .wind p => (g.window p).bytes
  | .arcv => mark g.wrap

/-- The length of a group's record (chapter 11.6). -/
def GroupId.recordLength : GroupId → Nat
  | .cali _ => 17
  | .tilt => 29
  | .thrm => 38
  | .tide _ => 14
  | .tidr => 8
  | .gate => 28
  | .scan => 2
  | .wind _ => 5
  | .arcv => 1

/-- The lengths an MDWR payload may have: five bytes and one of the nine records (chapter 11.2.1). -/
def mdwrLengths : List Nat := [22, 34, 43, 19, 13, 33, 7, 10, 6]

/-- The four letters of a group's name (chapter 6.3). -/
def GroupId.name : GroupId → List Byte
  | .cali _ => letters 67 65 76 73
  | .tilt => letters 84 73 76 84
  | .thrm => letters 84 72 82 77
  | .tide _ => letters 84 73 68 69
  | .tidr => letters 84 73 68 82
  | .gate => letters 71 65 84 69
  | .scan => letters 83 67 65 78
  | .wind _ => letters 87 73 78 68
  | .arcv => letters 65 82 67 86

/-- The index byte of a group, 0 for a group that has none (R176). -/
def GroupId.index : GroupId → Nat
  | .cali i => i.val
  | .tide j => j.val
  | .wind p => Port.code p
  | _ => 0

/-- The group a name and an index byte stand for, when they are those of a group (R76, R78, R176). -/
def GroupId.parse (name : List Byte) (index : Nat) : Option GroupId :=
  if name = letters 67 65 76 73 then (if h : index < 24 then some (.cali ⟨index, h⟩) else none)
  else if name = letters 84 73 68 69 then (if h : index < 16 then some (.tide ⟨index, h⟩) else none)
  else if name = letters 87 73 78 68 then
    (match index with
    | 0 => some (.wind .a)
    | 1 => some (.wind .b)
    | _ => none)
  else if index ≠ 0 then none
  else if name = letters 84 73 76 84 then some .tilt
  else if name = letters 84 72 82 77 then some .thrm
  else if name = letters 84 73 68 82 then some .tidr
  else if name = letters 71 65 84 69 then some .gate
  else if name = letters 83 67 65 78 then some .scan
  else if name = letters 65 82 67 86 then some .arcv
  else none

/-- The fields of a CALI record; none when an enumerated field lies outside its set (R73). -/
def CaliSlot.parse (l : List Byte) : Option CaliSlot :=
  (markAt l 0).map fun e => ⟨e, u32At l 1, u32At l 5, s32At l 9, s32At l 13⟩

/-- The fields of a TILT record as received (R20). -/
def TiltGroup.parse (l : List Byte) : TiltGroup :=
  ⟨s32At l 0, s32At l 4, s32At l 8, s32At l 12, s32At l 16, s32At l 20, u8At l 24, s32At l 25⟩

/-- The fields of a THRM record as received; none when follow-always lies outside its set (R33). -/
def ThrmGroup.parse (l : List Byte) : Option ThrmGroup :=
  (markAt l 37).map fun f =>
    { sens := s32At l 0, offset := s32At l 4, setPoint := s32At l 8, window := s32At l 12, kT := s32At l 16, kG := s32At l 20,
      nUp := u16At l 24, nDown := u16At l 26, bucketLimit := s32At l 28, step := s32At l 32, lowFrames := u8At l 36,
      followAlways := f }

/-- The fields of a TIDE record as received; none when enabled or species lies outside its set (R61). -/
def TideSlot.parse (l : List Byte) : Option TideSlot :=
  match markAt l 0 with
  | none => none
  | some e => if u8At l 1 ≤ 3 then some ⟨e, u8At l 1, u32At l 2, u32At l 6, s32At l 10⟩ else none

/-- The fields of a TIDR record as received (R62). -/
def TidrGroup.parse (l : List Byte) : TidrGroup := ⟨s32At l 0, u32At l 4⟩

/-- The fields of a GATE record as received (R77). -/
def GateGroup.parse (l : List Byte) : GateGroup :=
  ⟨u32At l 0, u32At l 4, s32At l 8, s32At l 12, s32At l 16, s32At l 20, s32At l 24⟩

/-- The fields of a SCAN record; none when a field lies outside its four values (R9, R178). -/
def ScanGroup.parse (l : List Byte) : Option ScanGroup :=
  let a := u8At l 1
  if a = 1 ∨ a = 2 ∨ a = 4 ∨ a = 8 then
    match u8At l 0 with
    | 0 => some ⟨.thirtySecond, a⟩
    | 1 => some ⟨.eighth, a⟩
    | 2 => some ⟨.half, a⟩
    | 3 => some ⟨.two, a⟩
    | _ => none
  else none

/-- The fields of a WIND record as received; none when write-protect lies outside its set (R85). -/
def Window.parse (l : List Byte) : Option Window := (markAt l 4).map fun wp => ⟨u16At l 0, u16At l 2, wp⟩

/-! ### The numeric ranges of the groups -/

/-- TILT clamped to its ranges (R20). -/
def TiltGroup.clamped (g : TiltGroup) : TiltGroup :=
  { g with
    threshold := clampInt 1 1000000 g.threshold
    hysteresis := clampInt 0 1000000 g.hysteresis
    debounce := clampNat 1 255 g.debounce
    motionLimit := clampInt 0 2000000 g.motionLimit }

/-- THRM clamped to its ranges (R33). -/
def ThrmGroup.clamped (g : ThrmGroup) : ThrmGroup :=
  { g with
    offset := clampInt (-1000000) 1000000 g.offset
    setPoint := clampInt (-1000000) 1000000 g.setPoint
    window := clampInt 0 2000000 g.window
    bucketLimit := clampInt 1 1000000 g.bucketLimit
    step := clampInt 1 10000 g.step
    lowFrames := clampNat 1 255 g.lowFrames }

/-- TIDE clamped to its ranges (R61). -/
def TideSlot.clamped (t : TideSlot) : TideSlot :=
  { t with speed := clampNat 0 268435455 t.speed, amplitude := clampInt 0 1000000 t.amplitude }

/-- TIDR clamped to its ranges (R62). -/
def TidrGroup.clamped (g : TidrGroup) : TidrGroup := { g with longitude := clampInt (-180000000) 180000000 g.longitude }

/-- GATE clamped to its ranges (R77). -/
def GateGroup.clamped (g : GateGroup) : GateGroup :=
  { g with
    gateLimit := clampInt 1 6000 g.gateLimit
    settle := clampInt 0 600 g.settle
    levelWait := clampInt 1 600 g.levelWait
    outlierLimit := clampInt 0 50000000 g.outlierLimit
    g0 := clampInt 976000 984000 g.g0 }

/-- WIND clamped to its ranges (R85). -/
def Window.clamped (w : Window) : Window := { w with first := clampNat 1 65534 w.first, last := clampNat 1 65534 w.last }

/-- A group's record written into the groups: none when an enumerated field lies outside its set, otherwise the groups
with the record stored, clamped where it must be (R76 cases 3 to 5). -/
def Groups.write (g : Groups) (id : GroupId) (l : List Byte) : Option Groups :=
  match id with
  | .cali i => (CaliSlot.parse l).map fun c => { g with cali := g.cali.set i c }
  | .tilt => some { g with tilt := (TiltGroup.parse l).clamped }
  | .thrm => (ThrmGroup.parse l).map fun t => { g with thrm := t.clamped }
  | .tide j => (TideSlot.parse l).map fun t => { g with tide := g.tide.set j t.clamped }
  | .tidr => some { g with tidr := (TidrGroup.parse l).clamped }
  | .gate => some { g with gate := (GateGroup.parse l).clamped }
  | .scan => (ScanGroup.parse l).map fun c => { g with scan := c }
  | .wind .a => (Window.parse l).map fun w => { g with windA := w.clamped }
  | .wind .b => (Window.parse l).map fun w => { g with windB := w.clamped }
  | .arcv => (markAt l 0).map fun w => { g with wrap := w }

end Sys2Proof.Machine
end

