-- ==== Sys2Proof/WellFormed.lean ====
section
/-!
DEFINITION. Which commands the part can meet: a request's payload fits a frame (chapter 10.2), an unknown request carries
four name bytes that name no request (R161), a length error carries a length above 520 (R160), and an edge command carries
at least one edge.
-/

namespace Sys2Proof

/-- The four ASCII letters of a request's name. -/
def requestName (a b c d : Char) : List Byte := [byte a.toNat, byte b.toNat, byte c.toNat, byte d.toNat]

/-- The names of the manual's requests (00_scope.md 6.4), in the table's order. -/
def requestNames : List (List Byte) :=
  [ requestName 'C' 'G' 'A' 'T', requestName 'C' 'G' 'R' 'D', requestName 'L' 'I' 'V' 'E', requestName 'C' 'K' 'S' 'T',
    requestName 'C' 'K' 'R' 'D', requestName 'T' 'D' 'C' 'P', requestName 'M' 'D' 'W' 'R', requestName 'M' 'D' 'R' 'D',
    requestName 'S' 'E' 'T' 'U', requestName 'S' 'U' 'R' 'V', requestName 'M' 'D' 'S' 'T', requestName 'R' 'D' 'R' 'Q',
    requestName 'R' 'D' 'C' 'N', requestName 'R' 'D' 'Q' 'U', requestName 'S' 'T' 'D' 'F', requestName 'S' 'T' 'R' 'M',
    requestName 'S' 'T' 'R' 'D', requestName 'O' 'C' 'O' 'P', requestName 'O' 'C' 'C' 'L', requestName 'O' 'C' 'D' 'S',
    requestName 'O' 'C' 'R' 'D', requestName 'A' 'R' 'R' 'T', requestName 'A' 'R' 'S' 'K', requestName 'A' 'R' 'N' 'X',
    requestName 'A' 'R' 'S' 'T', requestName 'E' 'V' 'R' 'D', requestName 'E' 'V' 'A' 'K', requestName 'E' 'V' 'C' 'F',
    requestName 'P' 'E' 'E' 'R', requestName 'I' 'D' 'E' 'N', requestName 'R' 'S' 'T' 'R' ]

/-- A request command's payload; none for an event. -/
def Instr.payload : Instr → Option (List Byte)
  | .cgat _ _ l | .cgrd _ _ l | .live _ _ l | .ckst _ _ l | .ckrd _ _ l | .tdcp _ _ l | .mdwr _ _ l | .mdrd _ _ l
  | .setu _ _ l | .surv _ _ l | .mdst _ _ l | .rdrq _ _ l | .rdcn _ _ l | .rdqu _ _ l | .stdf _ _ l | .strm _ _ l
  | .strd _ _ l | .ocop _ _ l | .occl _ _ l | .ocds _ _ l | .ocrd _ _ l | .arrt _ _ l | .arsk _ _ l | .arnx _ _ l
  | .arst _ _ l | .evrd _ _ l | .evak _ _ l | .evcf _ _ l | .peer _ _ l | .iden _ _ l | .rstr _ _ l
  | .unknownRequest _ _ _ l => some l
  | _ => none

/-- A payload fits a frame: at most 520 bytes (chapter 10.2). -/
def payloadFits : Option (List Byte) → Bool
  | some l => decide (l.length ≤ 520)
  | none => true

/-- What each command's operands must meet beside the payload's length. -/
def Instr.operandsOk : Instr → Bool
  | .unknownRequest _ _ name _ => decide (name.length = 4) && !requestNames.contains name
  | .frameLengthError _ _ n => decide (520 < n.toNat)
  | .sensorEdge n => decide (0 < n)
  | .referencePeriodEnd n => decide (0 < n)
  | _ => true

/-- A command the part can meet. -/
def Instr.wellFormed (i : Instr) : Bool := payloadFits i.payload && i.operandsOk

end Sys2Proof
end

