-- ==== Sys2Proof/Decode.lean ====
section
/-!
DEFINITION. From bits and bytes to commands. The opcode table gives no row any bits, so `decodeTableWord` reads no command
from a word. The manual's own encoding of a request is its frame (chapters 10.2 and 11.1): `receiveFrame` is what a port's
receiver makes of the bytes of one frame (R160, R161), by which the byte time of
Machine/Ports.lean works, and `Instr.frame` the frame of a request command.
-/

namespace Sys2Proof

open Machine (u16 frameBytes byteSum syncByte)

/-- The command a word spells by the table's bits: none, since spec/opcode_table.json gives no row any bits. -/
def decodeTableWord (_nbits _w : Nat) : Option Instr := none

/-- The request command a name stands for; UNKNOWN_REQUEST when it names none (R161). -/
def requestCommand (p : Port) (tag : Byte) (name payload : List Byte) : Instr :=
  if name = requestName 'C' 'G' 'A' 'T' then .cgat p tag payload
  else if name = requestName 'C' 'G' 'R' 'D' then .cgrd p tag payload
  else if name = requestName 'L' 'I' 'V' 'E' then .live p tag payload
  else if name = requestName 'C' 'K' 'S' 'T' then .ckst p tag payload
  else if name = requestName 'C' 'K' 'R' 'D' then .ckrd p tag payload
  else if name = requestName 'T' 'D' 'C' 'P' then .tdcp p tag payload
  else if name = requestName 'M' 'D' 'W' 'R' then .mdwr p tag payload
  else if name = requestName 'M' 'D' 'R' 'D' then .mdrd p tag payload
  else if name = requestName 'S' 'E' 'T' 'U' then .setu p tag payload
  else if name = requestName 'S' 'U' 'R' 'V' then .surv p tag payload
  else if name = requestName 'M' 'D' 'S' 'T' then .mdst p tag payload
  else if name = requestName 'R' 'D' 'R' 'Q' then .rdrq p tag payload
  else if name = requestName 'R' 'D' 'C' 'N' then .rdcn p tag payload
  else if name = requestName 'R' 'D' 'Q' 'U' then .rdqu p tag payload
  else if name = requestName 'S' 'T' 'D' 'F' then .stdf p tag payload
  else if name = requestName 'S' 'T' 'R' 'M' then .strm p tag payload
  else if name = requestName 'S' 'T' 'R' 'D' then .strd p tag payload
  else if name = requestName 'O' 'C' 'O' 'P' then .ocop p tag payload
  else if name = requestName 'O' 'C' 'C' 'L' then .occl p tag payload
  else if name = requestName 'O' 'C' 'D' 'S' then .ocds p tag payload
  else if name = requestName 'O' 'C' 'R' 'D' then .ocrd p tag payload
  else if name = requestName 'A' 'R' 'R' 'T' then .arrt p tag payload
  else if name = requestName 'A' 'R' 'S' 'K' then .arsk p tag payload
  else if name = requestName 'A' 'R' 'N' 'X' then .arnx p tag payload
  else if name = requestName 'A' 'R' 'S' 'T' then .arst p tag payload
  else if name = requestName 'E' 'V' 'R' 'D' then .evrd p tag payload
  else if name = requestName 'E' 'V' 'A' 'K' then .evak p tag payload
  else if name = requestName 'E' 'V' 'C' 'F' then .evcf p tag payload
  else if name = requestName 'P' 'E' 'E' 'R' then .peer p tag payload
  else if name = requestName 'I' 'D' 'E' 'N' then .iden p tag payload
  else if name = requestName 'R' 'S' 'T' 'R' then .rstr p tag payload
  else .unknownRequest p tag name payload

/-- What the bytes of one frame are to a receiver. -/
inductive Received where
  /-- The frame is over and is this command. -/
  | command (i : Instr)
  /-- The frame is not complete yet. -/
  | incomplete
  /-- The bytes begin with no sync byte: the receiver skips the first of them (R160). -/
  | skipped
  /-- More bytes than the frame has. -/
  | trailing
deriving DecidableEq, Repr

/-- What a port's receiver, hunting, makes of a run of bytes (R160, R161). -/
def receiveFrame (p : Port) (l : List Byte) : Received :=
  match l with
  | [] => .incomplete
  | sync :: rest =>
    if sync ≠ syncByte then .skipped
    else
      match rest with
      | tag :: a :: b :: c :: d :: lo :: hi :: body =>
        let n := lo.toNat + 256 * hi.toNat
        if 520 < n then (if body = [] then .command (.frameLengthError p tag (BitVec.ofNat 16 n)) else .trailing)
        else if body.length < n + 1 then .incomplete
        else if n + 1 < body.length then .trailing
        else if byteSum l % 256 = 0 then .command (requestCommand p tag [a, b, c, d] (body.take n))
        else .command (.frameCheckError p tag)
      | _ => .incomplete

/-- A request command's port, tag and name; none for an event. -/
def Instr.request : Instr → Option (Port × Byte × List Byte)
  | .cgat p t _ => some (p, t, requestName 'C' 'G' 'A' 'T')
  | .cgrd p t _ => some (p, t, requestName 'C' 'G' 'R' 'D')
  | .live p t _ => some (p, t, requestName 'L' 'I' 'V' 'E')
  | .ckst p t _ => some (p, t, requestName 'C' 'K' 'S' 'T')
  | .ckrd p t _ => some (p, t, requestName 'C' 'K' 'R' 'D')
  | .tdcp p t _ => some (p, t, requestName 'T' 'D' 'C' 'P')
  | .mdwr p t _ => some (p, t, requestName 'M' 'D' 'W' 'R')
  | .mdrd p t _ => some (p, t, requestName 'M' 'D' 'R' 'D')
  | .setu p t _ => some (p, t, requestName 'S' 'E' 'T' 'U')
  | .surv p t _ => some (p, t, requestName 'S' 'U' 'R' 'V')
  | .mdst p t _ => some (p, t, requestName 'M' 'D' 'S' 'T')
  | .rdrq p t _ => some (p, t, requestName 'R' 'D' 'R' 'Q')
  | .rdcn p t _ => some (p, t, requestName 'R' 'D' 'C' 'N')
  | .rdqu p t _ => some (p, t, requestName 'R' 'D' 'Q' 'U')
  | .stdf p t _ => some (p, t, requestName 'S' 'T' 'D' 'F')
  | .strm p t _ => some (p, t, requestName 'S' 'T' 'R' 'M')
  | .strd p t _ => some (p, t, requestName 'S' 'T' 'R' 'D')
  | .ocop p t _ => some (p, t, requestName 'O' 'C' 'O' 'P')
  | .occl p t _ => some (p, t, requestName 'O' 'C' 'C' 'L')
  | .ocds p t _ => some (p, t, requestName 'O' 'C' 'D' 'S')
  | .ocrd p t _ => some (p, t, requestName 'O' 'C' 'R' 'D')
  | .arrt p t _ => some (p, t, requestName 'A' 'R' 'R' 'T')
  | .arsk p t _ => some (p, t, requestName 'A' 'R' 'S' 'K')
  | .arnx p t _ => some (p, t, requestName 'A' 'R' 'N' 'X')
  | .arst p t _ => some (p, t, requestName 'A' 'R' 'S' 'T')
  | .evrd p t _ => some (p, t, requestName 'E' 'V' 'R' 'D')
  | .evak p t _ => some (p, t, requestName 'E' 'V' 'A' 'K')
  | .evcf p t _ => some (p, t, requestName 'E' 'V' 'C' 'F')
  | .peer p t _ => some (p, t, requestName 'P' 'E' 'E' 'R')
  | .iden p t _ => some (p, t, requestName 'I' 'D' 'E' 'N')
  | .rstr p t _ => some (p, t, requestName 'R' 'S' 'T' 'R')
  | .unknownRequest p t name _ => some (p, t, name)
  | _ => none

/-- The frame of a request command, empty for an event (chapter 11.1). -/
def Instr.frame (i : Instr) : List Byte :=
  match i.request with
  | some (_, tag, name) => frameBytes tag name (i.payload.getD [])
  | none => []

end Sys2Proof
end

