-- ==== Sys2Proof/Machine/Flags.lean ====
section
/-!
DEFINITION. Event flags and attention lines (chapter 10.3): what a posting does to a port's counts, details, pulses and
line, and how the line follows the flags. Every change of a flag, a mask or a line mode goes through this file.
-/

namespace Sys2Proof.Machine

/-- The value of one flag. -/
def PerFlag.get {α : Type} (x : PerFlag α) : EventFlag → α
  | .rdon => x.rdon
  | .levl => x.levl
  | .mode => x.mode
  | .clck => x.clck
  | .arch => x.arch
  | .peer => x.peer
  | .thrm => x.thrm
  | .rset => x.rset

/-- One flag's value replaced. -/
def PerFlag.set {α : Type} (x : PerFlag α) (f : EventFlag) (v : α) : PerFlag α :=
  match f with
  | .rdon => { x with rdon := v }
  | .levl => { x with levl := v }
  | .mode => { x with mode := v }
  | .clck => { x with clck := v }
  | .arch => { x with arch := v }
  | .peer => { x with peer := v }
  | .thrm => { x with thrm := v }
  | .rset => { x with rset := v }

/-- A function applied to every flag's value. -/
def PerFlag.map {α β : Type} (g : α → β) (x : PerFlag α) : PerFlag β :=
  ⟨g x.rdon, g x.levl, g x.mode, g x.clck, g x.arch, g x.peer, g x.thrm, g x.rset⟩

/-- The values in the order of the table of chapter 10.3. -/
def PerFlag.toList {α : Type} (x : PerFlag α) : List α :=
  [x.rdon, x.levl, x.mode, x.clck, x.arch, x.peer, x.thrm, x.rset]

/-- The flag a detail belongs to. -/
def Detail.flag : Detail → EventFlag
  | .rdon .. => .rdon
  | .levl .. => .levl
  | .mode .. => .mode
  | .clck .. => .clck
  | .arch .. => .arch
  | .peer .. => .peer
  | .thrm .. => .thrm
  | .rset .. => .rset

/-- Some enabled flag has a count above zero (R164). -/
def PortState.raised (q : PortState) : Bool :=
  (q.config.mask.toList.zip q.flags.toList).any fun (on, f) => on && decide (0 < f.count)

/-- The line as it stands between pulses: in LEVEL mode it follows the flags (R164), in PULSE mode it rests released
(R165). -/
def PortState.settle (q : PortState) : PortState :=
  { q with atn := match q.config.line with | .level => q.raised | .pulse => false }

/-- A posting (R163), with the pulse it adds in PULSE mode when its flag is enabled (R165). -/
def PortState.post (q : PortState) (d : Detail) : PortState :=
  let old := q.flags.get d.flag
  let adds := decide (q.config.line = .pulse) && q.config.mask.get d.flag
  PortState.settle
    { q with
      flags := q.flags.set d.flag ⟨heldSucc old.count, some d⟩
      pulses := if adds then heldSucc q.pulses else q.pulses }

/-- A posting on one port. -/
def State.post (s : State) (p : Port) (d : Detail) : State := s.setPort p ((s.port p).post d)

/-- A posting on both ports: two postings, one to each flag set (R163). -/
def State.postBoth (s : State) (d : Detail) : State := (s.post .a d).post .b d

/-- Every count set to 0, the details kept (R166). -/
def PortState.clearCounts (q : PortState) : PortState :=
  PortState.settle { q with flags := q.flags.map fun f => { f with count := 0 } }

/-- One flag's count decreased by the number seen, to 0 at most (R167). -/
def PortState.acknowledge (q : PortState) (f : EventFlag) (seen : Nat) : PortState :=
  let old := q.flags.get f
  PortState.settle { q with flags := q.flags.set f { old with count := old.count - min old.count seen } }

/-- The configuration replaced whole (R168); a line mode of LEVEL leaves no pulse pending (R165). -/
def PortState.configure (q : PortState) (c : PortConfig) : PortState :=
  PortState.settle { q with config := c, pulses := match c.line with | .level => 0 | .pulse => q.pulses }

/-- A pending pulse given on the line, which rests released after it (R165). -/
def PortState.givePulse (q : PortState) : PortState :=
  if q.config.line = .pulse ∧ 0 < q.pulses then
    { q with pulses := q.pulses - 1, pulsesGiven := q.pulsesGiven + 1 }
  else q

/-- A port at the ports' restart step, before RSET is posted: no partial frame, no response, counts 0, details absent,
no pending pulse, the configuration kept (R172). -/
def PortState.restarted (q : PortState) : PortState :=
  PortState.settle { q with received := [], response := none, sent := 0, flags := .all ⟨0, none⟩, pulses := 0 }

end Sys2Proof.Machine
end

