-- ==== Sys2Proof/Machine/Serving.lean ====
section
/-!
DEFINITION. How a request is taken and answered on either port (R160 to R162): the shared frame of every request
command's meaning.
-/

namespace Sys2Proof.Machine

/-- What a meaning answers. -/
abbrev Result := Host.Outcome State Fault Refusal

/-- A request's answer: its status word, its payload and the state it leaves. -/
structure Reply where
  status : Status
  payload : List Byte
  state : State

/-- The response of a taken request is formed: its bytes are pending on the port, none of them sent, and the frame in
progress is over. -/
def State.answer (s : State) (p : Port) (tag : Byte) (st : Status) (payload : List Byte) : State :=
  s.setPort p { s.port p with received := [], response := some (responseFrame tag st payload), sent := 0 }

/-- A port has a response not yet sent in full, and its receiver ignores every byte (R162). -/
def State.answering (s : State) (p : Port) : Bool := (s.port p).response.isSome

/-- A frame taken in any phase: ignored while the port is answering (R162), else answered by its rule. -/
def State.serveAlways (s : State) (p : Port) (tag : Byte) (rule : State → Reply) : State :=
  if s.answering p then s
  else
    let r := rule s
    r.state.answer p tag r.status r.payload

/-- The BUSY answer of a request taken during start-up: cause STARTING and the phase (R161, R174). -/
def State.starting (s : State) : Reply := ⟨.busy, u8 BusyCause.starting.code ++ u8 s.startUp.phase.code, s⟩

/-- A request other than IDEN: BUSY in every phase but READY, else its own rule (R161). -/
def State.serve (s : State) (p : Port) (tag : Byte) (rule : State → Reply) : State :=
  s.serveAlways p tag fun s => if s.startUp.phase = .ready then rule s else s.starting

/-- An answer without payload that leaves the state as it was. -/
def State.refuse (s : State) (st : Status) : Reply := ⟨st, [], s⟩

/-- A BUSY answer with its cause (R174). -/
def State.busy (s : State) (c : BusyCause) : Reply := ⟨.busy, u8 c.code, s⟩

/-- The length check of R161: ARGS unless the payload has the request's length. -/
def State.sized (s : State) (payload : List Byte) (n : Nat) (rule : Reply) : Reply :=
  if payload.length = n then rule else s.refuse .args

end Sys2Proof.Machine
end

