-- ==== Sys2Proof/Machine/SurveyClock.lean ====
section
/-!
DEFINITION. Chapter 4: the Survey Clock. Ticks, the judgement of SECOND pulses, the preload, CKST and CKRD. Dates are
counts of REFCLK rising edges; an event's date is `now`, but for the internal and the substitute tick, dated exactly one
second after the last tick date (R49, R53).
-/

namespace Sys2Proof.Machine

/-- Reference periods since the last tick date. -/
def Clock.elapsed (c : Clock) (now : Nat) : Nat := now - c.lastTick

/-- The sub-second fraction, held at most 65,535 (R47). -/
def Clock.fraction (c : Clock) (now : Nat) : Nat := min (c.elapsed now * 65536 / Config.periodsPerSecond) 65535

/-- A stamp: the clock taken whole as it stands (R7, R47). -/
def Clock.stamp (c : Clock) (now : Nat) : Stamp := ⟨c.seconds, c.fraction now, c.time, c.discipline⟩

/-- The seconds count when the time is SET, absent when it is UNSET (R127). -/
def Clock.openStamp (c : Clock) : Option Nat :=
  match c.time with
  | .set => some c.seconds
  | .unset => none

/-- A pulse interval of one second within the tolerance (R50, R52). -/
def goodInterval (periods : Nat) : Bool :=
  decide (Config.periodsPerSecond - Config.pulseTolerance ≤ periods) &&
    decide (periods ≤ Config.periodsPerSecond + Config.pulseTolerance)

/-- The step notice marks a COUNTING gate and goes on its way to the engine (R3, R56). -/
def State.giveStepNotice (s : State) : State :=
  { s with
    gate := { s.gate with stepped := s.gate.stepped || decide (s.gate.state = .counting) }
    engine := { s.engine with stepNotices := s.engine.stepNotices + 1 } }

/-- A tick of the given date (R48), with the preload it applies, if one is pending (R56). -/
def State.tick (s : State) (date : Nat) : State :=
  let c := { s.clock with lastTick := date }
  match c.time, c.preload with
  | .unset, _ => { s with clock := c }
  | .set, none => { s with clock := { c with seconds := (c.seconds + 1) % 4294967296 } }
  | .set, some v =>
    State.postBoth (State.giveStepNotice { s with clock := { c with seconds := v, preload := none } })
      (.clck .stepped c.discipline none none v (some ((v : Int) - ((c.seconds : Int) + 1))))

/-- A return to INTERNAL: the miss and bad counts become 0, and CLCK is posted (R52 to R54). -/
def State.returnInternal (s : State) (cause : ClckCause) : State :=
  State.postBoth { s with clock := { s.clock with discipline := .internal, miss := 0, bad := 0 } }
    (.clck .discipline .internal (some cause) none s.clock.seconds none)

/-- The qualifying pulse (R51): the discipline becomes PULSE and is posted, then the pulse ticks, or realigns when less
than half a second has passed since the last tick date. -/
def State.qualify (s : State) : State :=
  let s := { s with clock := { s.clock with discipline := .pulse, good := 0 } }
  if Config.periodsPerSecond / 2 ≤ s.clock.elapsed s.now then
    (s.postBoth (.clck .discipline .pulse (some .qualified) (some true) (s.tick s.now).clock.seconds none)).tick s.now
  else
    State.postBoth { s with clock := { s.clock with lastTick := s.now } }
      (.clck .discipline .pulse (some .qualified) (some false) s.clock.seconds none)

/-- A SECOND pulse in INTERNAL discipline (R50, R51). -/
def State.pulseInternal (s : State) : State :=
  let good :=
    match s.clock.prevPulse with
    | some d => goodInterval (s.now - d)
    | none => false
  let c := { s.clock with prevPulse := some s.now }
  if good then
    if c.good + 1 = 3 then State.qualify { s with clock := c }
    else { s with clock := { c with good := c.good + 1 } }
  else { s with clock := { c with good := 0 } }

/-- A SECOND pulse in PULSE discipline (R52). -/
def State.pulseDisciplined (s : State) : State :=
  let c := { s.clock with prevPulse := some s.now }
  if goodInterval (c.elapsed s.now) then
    State.tick { s with clock := { c with miss := 0, bad := 0 } } s.now
  else
    let s := { s with clock := { c with bad := c.bad + 1 } }
    if s.clock.bad = 3 then s.returnInternal .badPulses else s

/-- A rising edge of SECOND, judged by the discipline in force. -/
def State.secondPulse (s : State) : State :=
  match s.clock.discipline with
  | .internal => s.pulseInternal
  | .pulse => s.pulseDisciplined

/-- INTERNAL_TICK (R49). -/
def execInternalTick (s : State) : Result :=
  .next
    (if s.clock.discipline = .internal ∧ Config.periodsPerSecond ≤ s.clock.elapsed s.now then
      s.tick (s.clock.lastTick + Config.periodsPerSecond)
    else s)

/-- SECOND_PULSE_INTERNAL (R50, R51). -/
def execSecondPulseInternal (s : State) : Result := .next s.secondPulse

/-- SECOND_PULSE_DISCIPLINED (R52). -/
def execSecondPulseDisciplined (s : State) : Result := .next s.secondPulse

/-- The substitute tick, and the third miss that returns the clock to INTERNAL (R53). -/
def State.substituteTick (s : State) : State :=
  let s := s.tick (s.clock.lastTick + Config.periodsPerSecond)
  let s := { s with clock := { s.clock with miss := s.clock.miss + 1 } }
  if s.clock.miss = 3 then s.returnInternal .misses else s

/-- PULSE_WINDOW_EXPIRY (R53). -/
def execPulseWindowExpiry (s : State) : Result :=
  .next
    (if s.clock.discipline = .pulse ∧ Config.periodsPerSecond + Config.pulseTolerance ≤ s.clock.elapsed s.now then
      s.substituteTick
    else s)

/-- The rule of CKST (R55); the payload's first byte is LOADED 0, PRELOADED 1 or REPLACED 2. -/
def ckstReply (payload : List Byte) (s : State) : Reply :=
  s.sized payload 4 <|
    let v := u32At payload 0
    match s.clock.time, s.clock.preload with
    | .unset, _ =>
      ⟨.okay, u8 0,
        State.postBoth { s with clock := { s.clock with seconds := v, time := .set } }
          (.clck .loaded s.clock.discipline none none v none)⟩
    | .set, none => ⟨.okay, u8 1, { s with clock := { s.clock with preload := some v } }⟩
    | .set, some old => ⟨.okay, u8 2 ++ u32 old, { s with clock := { s.clock with preload := some v } }⟩

/-- CKST (R55). -/
def execCkst (p : Port) (tag : Byte) (payload : List Byte) (s : State) : Result :=
  .next (s.serve p tag (ckstReply payload))

/-- The payload of CKRD (R58). -/
def Clock.report (c : Clock) (now : Nat) : List Byte :=
  u32 c.seconds ++ u16 (c.fraction now) ++ u8 c.time.code ++ u8 c.discipline.code ++ opt u32 4 c.preload ++ u8 c.good
    ++ u8 c.miss ++ u8 c.bad ++ mark c.prevPulse.isSome

/-- The rule of CKRD (R58). -/
def ckrdReply (payload : List Byte) (s : State) : Reply :=
  s.sized payload 0 ⟨.okay, s.clock.report s.now, s⟩

/-- CKRD (R58). -/
def execCkrd (p : Port) (tag : Byte) (payload : List Byte) (s : State) : Result :=
  .next (s.serve p tag (ckrdReply payload))

end Sys2Proof.Machine
end

