-- ==== Sys2Proof/Machine/SensorGate.lean ====
section
/-!
DEFINITION. Chapter 1.1 to 1.3 and 1.5: the Sensor Gate and the calibration gates CGAT and CGRD.
-/

namespace Sys2Proof.Machine

/-- The normalized raw value: count × 2^(16 − k) (R8). -/
def rawValue (count k : Nat) : Nat := count * 2 ^ (16 - k)

/-- An arm, taken when the gate is IDLE and refused without effect otherwise (R1). -/
def State.armGate (s : State) (armer : Armer) (k : Nat) : State :=
  if s.gate.state = .idle then
    { s with gate :=
      { state := .armed, armer := some armer, k := k, edgeCount := 0, refCount := 0, start := none, stop := none,
        stepped := false, limitDue := some (s.now + s.model.groups.gate.gateLimit.toNat * Config.periodsPerGateUnit),
        armCount := s.gate.armCount + 1 } }
  else s

/-- An abandon: the gate returns to IDLE without any report; none when it is IDLE already (R6). -/
def SensorGate.abandon (g : SensorGate) : SensorGate :=
  if g.state = .idle then g
  else { g with state := .idle, armer := none, edgeCount := 0, refCount := 0, start := none, stop := none, limitDue := none }

/-- A report handed to the gate's armer (R4, R5). -/
def State.handReport (s : State) (r : GateReport) : State :=
  match s.gate.armer with
  | some .engine => { s with engine := { s.engine with reports := s.engine.reports ++ [r] } }
  | some (.calibration _) => { s with cal := { s.cal with report := some r } }
  | none => s

/-- The completion report of the gate as it stands at the completion edge (R4). -/
def State.completion (s : State) : Completion :=
  let g := s.gate
  let stop := s.clock.stamp s.now
  { gate := g.armCount, k := g.k, count := g.refCount, raw := rawValue g.refCount g.k, start := g.start.getD stop, stop := stop,
    stepped := g.stepped }

/-- The completion edge (R4). -/
def State.completeGate (s : State) : State :=
  let t := s.handReport (.completion s.completion)
  { t with gate := { s.gate with state := .idle, armer := none, edgeCount := s.gate.edgeCount + 1,
                                 stop := some (s.clock.stamp s.now), limitDue := none } }

/-- The start edge (R2). -/
def State.startGate (s : State) : State :=
  { s with gate := { s.gate with state := .counting, start := some (s.clock.stamp s.now) } }

/-- One FREQ rising edge, taken as the gate's state requires: ignored in IDLE, the start edge in ARMED, and in COUNTING
the completion edge when it brings the edge count to 2^k, otherwise one more edge (R2 to R4). -/
def State.freqEdge (s : State) : State :=
  match s.gate.state with
  | .idle => s
  | .armed => s.startGate
  | .counting =>
    if s.gate.edgeCount + 1 = 2 ^ s.gate.k then s.completeGate
    else { s with gate := { s.gate with edgeCount := s.gate.edgeCount + 1 } }

/-- FREQ rising edges one after another with nothing between them: edges before the completion edge are added at once,
and edges after it find the gate IDLE and are ignored. -/
def State.freqEdges (s : State) (n : Nat) : State :=
  let count (t : State) (m : Nat) : State :=
    if t.gate.edgeCount + m < 2 ^ t.gate.k then { t with gate := { t.gate with edgeCount := t.gate.edgeCount + m } }
    else State.freqEdge { t with gate := { t.gate with edgeCount := 2 ^ t.gate.k - 1 } }
  match n, s.gate.state with
  | 0, _ => s
  | _, .idle => s
  | m + 1, .armed => count s.startGate m
  | m, .counting => count s m

/-- START_EDGE (R2). -/
def execStartEdge (s : State) : Result := .next s.freqEdge

/-- SENSOR_EDGE (R3). -/
def execSensorEdge (edges : Nat) (s : State) : Result := .next (s.freqEdges edges)

/-- COMPLETION_EDGE (R4). -/
def execCompletionEdge (s : State) : Result := .next s.freqEdge

/-- REFERENCE_PERIOD_END (R3): each REFCLK rising edge moves the date on by one, and adds 1 to the reference count of a
COUNTING gate, which cannot exceed 600,000,000. -/
def execReferencePeriodEnd (periods : Nat) (s : State) : Result :=
  .next
    { s with
      now := s.now + periods
      gate :=
        match s.gate.state with
        | .counting => { s.gate with refCount := min (s.gate.refCount + periods) Config.maxReferenceCount }
        | _ => s.gate }

/-- A timeout (R5). -/
def State.timeoutGate (s : State) : State :=
  let t := s.handReport (.timeout s.gate.armCount s.gate.k s.gate.start)
  { t with gate := { s.gate with state := .idle, armer := none, edgeCount := 0, refCount := 0, limitDue := none } }

/-- GATE_TIMEOUT (R5): taken in ARMED or COUNTING when the limit timer is due. -/
def execGateTimeout (s : State) : Result :=
  .next
    (match s.gate.state, s.gate.limitDue with
    | .idle, _ => s
    | _, some due => if s.reached due then s.timeoutGate else s
    | _, none => s)

/-! ### Calibration gates -/

/-- A frame joins the calibration accumulator (R12). -/
def CalAccumulator.add (a : CalAccumulator) (f : Frame) : CalAccumulator :=
  { n := a.n + 1
    sumX := a.sumX + f.tiltX
    sumY := a.sumY + f.tiltY
    temp := some f.temp
    marks := ⟨a.marks.x || f.satX, a.marks.y || f.satY, a.marks.t || f.satT⟩ }

/-- CALIBRATION_ACCUMULATOR_FRAME (R12): the oldest frame delivered to the calibration gate is taken. -/
def execCalibrationAccumulatorFrame (s : State) : Result :=
  .next
    (match s.cal.frames with
    | [] => s
    | f :: fs => { s with cal := { s.cal with acc := s.cal.acc.add f, frames := fs } })

/-- The result of a completed calibration gate (R15). -/
def calComplete (r : CalResult) (acc : CalAccumulator) (inForce : Option Frame) (c : Completion) : CalResult :=
  let base := { r with state := .complete, count := some c.count, raw := some c.raw, frames := some acc.n }
  if 0 < acc.n then
    { base with meanX := some (roundDiv acc.sumX acc.n), meanY := some (roundDiv acc.sumY acc.n), temp := acc.temp,
                marks := some acc.marks }
  else
    match inForce with
    | some f =>
      { base with meanX := some f.tiltX, meanY := some f.tiltY, temp := some f.temp, marks := some ⟨f.satX, f.satY, f.satT⟩ }
    | none => { base with meanX := none, meanY := none, temp := none, marks := some ⟨false, false, false⟩ }

/-- RDON with ticket 0 on the requesting port alone (R15). R15 gives the detail no cause, accepted count or attempts: the cause
is absent also where the outcome is FAILED, and the two counts are 0 (DESIGN CHOICE, log entry 22). -/
def State.postCalibrationEnd (s : State) (outcome : RdonOutcome) : State :=
  match s.cal.result.port with
  | some p => s.post p (.rdon 0 outcome none 0 0 0)
  | none => s

/-- CALIBRATION_GATE_END (R15): taken once every frame delivered to the gate has joined the accumulator. -/
def execCalibrationGateEnd (s : State) : Result :=
  .next
    (match s.cal.frames, s.cal.report with
    | [], some (.completion c) =>
      State.postCalibrationEnd
        { s with cal := { s.cal with report := none, result := calComplete s.cal.result s.cal.acc s.scan.latest c } } .done
    | [], some (.timeout ..) =>
      State.postCalibrationEnd
        { s with cal := { s.cal with report := none, result := { s.cal.result with state := .timeout } } } .failed
    | _, _ => s)

/-- The rule of CGAT (R14). -/
def cgatReply (p : Port) (payload : List Byte) (s : State) : Reply :=
  s.sized payload 1 <|
    if s.model.mode = .survey then s.refuse .mode
    else if s.cal.result.state = .pending then s.busy .calibration
    else
      let asked := u8At payload 0
      let k := clampNat 10 16 asked
      let t := { s with cal := { s.cal with acc := .none, result := { CalResult.none with state := .pending, port := some p, k := some k } } }
      ⟨if k = asked then .okay else .clmp, u8 k, t.armGate (.calibration p) k⟩

/-- CGAT (R14). -/
def execCgat (p : Port) (tag : Byte) (payload : List Byte) (s : State) : Result :=
  .next (s.serve p tag (cgatReply p payload))

/-- A calibration gate's number of frames in eight bits (R175); a number above 255 has no stated byte (log entry 2). -/
def frameCountByte (n : Nat) : List Byte := if n ≤ 255 then u8 n else [Config.wideFrameCount n]

/-- The payload of CGRD (R16, chapter 1.5). The three saturation marks share one presence byte (DESIGN CHOICE, log entry
22). -/
def CalResult.bytes (r : CalResult) : List Byte :=
  u8 r.state.code ++ opt (fun p => u8 (Port.code p)) 1 r.port ++ opt u8 1 r.k ++ opt u64 8 r.count ++ opt u64 8 r.raw
    ++ opt frameCountByte 1 r.frames ++ opt s32 4 r.meanX ++ opt s32 4 r.meanY ++ opt s32 4 r.temp
    ++ opt (fun m => mark m.x ++ mark m.y ++ mark m.t) 3 r.marks

/-- The rule of CGRD (R16). -/
def cgrdReply (payload : List Byte) (s : State) : Reply := s.sized payload 0 ⟨.okay, s.cal.result.bytes, s⟩

/-- CGRD (R16). -/
def execCgrd (p : Port) (tag : Byte) (payload : List Byte) (s : State) : Result :=
  .next (s.serve p tag (cgrdReply payload))

end Sys2Proof.Machine
end

