-- ==== Sys2Proof/Machine/FrameScanner.lean ====
section
/-!
DEFINITION. Chapter 1.4: the Frame Scanner. Conversions, the frame of a scan interval and its three deliveries.
-/

namespace Sys2Proof.Machine

/-- A code at either end of the 24-bit range (R10). -/
def saturatedCode (c : Int) : Bool := decide (c = 8388607) || decide (c = -8388608)

/-- The frame's code for a channel: the mean of its conversions (R10). -/
def meanCode (l : List Int) : Int := roundDiv l.sum l.length

/-- A scan begun or restarted now, with the SCAN group as the model holds it (R13, R18). -/
def State.startScan (s : State) : State :=
  { s with scan :=
    { s.scan with
      interval := s.model.groups.scan.interval
      averaging := s.model.groups.scan.averaging
      convX := []
      convY := []
      convT := []
      arrivalDue := some (s.now + s.model.groups.scan.interval.periods) } }

/-- One conversion joins those in progress for its channel, up to A (R10). -/
def convert (averaging : Nat) (l : List Int) (code : Int) : List Int := if l.length < averaging then l ++ [code] else l

/-- ANALOG_CONVERSION (R10): one conversion of one channel while a scan runs. -/
def execAnalogConversion (channel : Channel) (code : BitVec 24) (s : State) : Result :=
  .next
    (if s.scan.arrivalDue.isSome then
      match channel with
      | .tiltX => { s with scan := { s.scan with convX := convert s.scan.averaging s.scan.convX code.toInt } }
      | .tiltY => { s with scan := { s.scan with convY := convert s.scan.averaging s.scan.convY code.toInt } }
      | .temperature => { s with scan := { s.scan with convT := convert s.scan.averaging s.scan.convT code.toInt } }
    else s)

/-- Every channel has its A conversions (R10). -/
def Scanner.complete (c : Scanner) : Bool :=
  decide (c.convX.length = c.averaging) && decide (c.convY.length = c.averaging) && decide (c.convT.length = c.averaging)

/-- The frame formed from the conversions in progress (R10). -/
def Scanner.form (c : Scanner) : Frame :=
  { id := c.frameCount + 1
    tiltX := meanCode c.convX
    tiltY := meanCode c.convY
    temp := meanCode c.convT
    satX := c.convX.any saturatedCode
    satY := c.convY.any saturatedCode
    satT := c.convT.any saturatedCode }

/-- The deliveries of a frame: to the Level Monitor, to the Thermal Tracker, and, while a gate is COUNTING, to its
armer's accumulator (R11). -/
def State.deliver (s : State) (f : Frame) : State :=
  let s := { s with level := { s.level with frames := s.level.frames ++ [f] }
                    thermal := { s.thermal with frames := s.thermal.frames ++ [f] } }
  match s.gate.state, s.gate.armer with
  | .counting, some .engine =>
    { s with engine := { s.engine with frames := s.engine.frames ++ [⟨s.gate.armCount, f⟩] } }
  | .counting, some (.calibration _) => { s with cal := { s.cal with frames := s.cal.frames ++ [f] } }
  | _, _ => s

/-- A frame arrives: it becomes the frame in force, the conversions in progress are cleared, the next interval follows
without gap, and the frame is delivered (R11). -/
def State.arrive (s : State) (due : Nat) : State :=
  let f := s.scan.form
  State.deliver
    { s with scan :=
      { s.scan with latest := some f, convX := [], convY := [], convT := [], frameCount := s.scan.frameCount + 1,
                    arrivalDue := some (due + s.scan.interval.periods) } }
    f

/-- FRAME_ARRIVAL (R11): at the end of a scan interval, with the A conversions of each channel taken. -/
def execFrameArrival (s : State) : Result :=
  .next
    (match s.scan.arrivalDue with
    | some due => if s.reached due && s.scan.complete then s.arrive due else s
    | none => s)

end Sys2Proof.Machine
end

