-- ==== Sys2Proof/Machine/LevelMonitor.lean ====
section
/-!
DEFINITION. Chapter 2: the Level Monitor and the tilt correction. LIVE is in Machine/ThermalTracker.lean, after the last
block it reads.
-/

namespace Sys2Proof.Machine

/-- A tilt code converted to 0.01 microradian, clamped to the kept range (R19). -/
def convertTilt (zero sens code : Int) : Int := clampInt (-1000000) 1000000 (roundDiv ((code - zero) * sens) 65536)

/-- Tilt X of a frame (R19). -/
def TiltGroup.tiltX (g : TiltGroup) (f : Frame) : Int := convertTilt g.zeroX g.sensX f.tiltX

/-- Tilt Y of a frame (R19). -/
def TiltGroup.tiltY (g : TiltGroup) (f : Frame) : Int := convertTilt g.zeroY g.sensY f.tiltY

/-- The tilts of a frame with m (R22). -/
def TiltGroup.tilts (g : TiltGroup) (f : Frame) : Tilts :=
  ⟨g.tiltX f, g.tiltY f, g.tiltX f * g.tiltX f + g.tiltY f * g.tiltY f⟩

/-- The entry bound (R21). -/
def TiltGroup.entryBound (g : TiltGroup) : Int :=
  if g.hysteresis < g.threshold then (g.threshold - g.hysteresis) * (g.threshold - g.hysteresis) else 0

/-- The leave bound (R21). -/
def TiltGroup.leaveBound (g : TiltGroup) : Int :=
  (g.threshold + g.hysteresis) * (g.threshold + g.hysteresis)

/-- A change of level state is reported: a level notice to the engine, and LEVL on both ports (R24). -/
def State.reportLevel (s : State) (cause : LevlCause) : State :=
  State.postBoth { s with engine := { s.engine with levelNotices := s.engine.levelNotices ++ [s.level.state] } }
    (.levl s.level.state cause s.level.tilts)

/-- The monitor with a frame's tilts and marks stored (R22). -/
def LevelMonitor.store (m : LevelMonitor) (g : TiltGroup) (f : Frame) : LevelMonitor :=
  { m with tilts := some (g.tilts f), satX := f.satX, satY := f.satY }

/-- A frame judged in UNLEVEL (R22). -/
def State.judgeUnlevel (s : State) (f : Frame) : State :=
  let g := s.model.groups.tilt
  let l := s.level
  if !f.satX && !f.satY && decide ((g.tilts f).m ≤ g.entryBound) then
    if l.debounce + 1 = g.debounce then
      State.reportLevel { s with level := { l with debounce := l.debounce + 1, state := .level } } .entered
    else { s with level := { l with debounce := l.debounce + 1 } }
  else { s with level := { l with debounce := 0 } }

/-- A frame judged in LEVEL (R23). -/
def State.judgeLevel (s : State) (f : Frame) : State :=
  let g := s.model.groups.tilt
  let lost := { s with level := { s.level with state := .unlevel, debounce := 0 } }
  if f.satX || f.satY then lost.reportLevel .saturated
  else if g.leaveBound < (g.tilts f).m then lost.reportLevel .exceeded
  else s

/-- A frame taken by the monitor: converted, stored and judged (R22, R23). -/
def State.levelFrame (s : State) (f : Frame) : State :=
  let t := { s with level := { s.level.store s.model.groups.tilt f with taken := true } }
  match s.level.state with
  | .unlevel => t.judgeUnlevel f
  | .level => t.judgeLevel f

/-- LEVEL_MONITOR_FRAME (R22, R23): the oldest frame delivered to the monitor is taken. -/
def execLevelMonitorFrame (s : State) : Result :=
  .next
    (match s.level.frames with
    | [] => s
    | f :: fs => State.levelFrame { s with level := { s.level with frames := fs } } f)

/-- Re-initialization of the monitor (R25): UNLEVEL with debounce 0, the frame in force converted afresh, and the change
reported when the state was LEVEL. A frame delivered before and not yet taken stays to be taken (R22), and is then the first
toward the debounce, where R25 speaks of the next frame that arrives (DESIGN CHOICE, log entry 23). -/
def State.reinitLevel (s : State) : State :=
  let l := { s.level with state := .unlevel, debounce := 0 }
  let l := match s.scan.latest with
    | some f => l.store s.model.groups.tilt f
    | none => l
  let t := { s with level := l }
  match s.level.state with
  | .level => t.reportLevel .reinit
  | .unlevel => t

/-- The tilt correction of a gate (R29). -/
def tiltCorrection (g0 tx ty : Int) : Int :=
  clampCorrection (roundDiv (g0 * (tx * tx + ty * ty)) 200000000000)

end Sys2Proof.Machine
end

