-- ==== Sys2Proof/Machine/ThermalTracker.lean ====
section
/-!
DEFINITION. Chapter 3: the Thermal Tracker, the thermal correction, and LIVE (R30).
-/

namespace Sys2Proof.Machine

/-- A temperature code converted to 0.1 mK, clamped to the kept range (R32). -/
def ThrmGroup.convert (g : ThrmGroup) (code : Int) : Int :=
  clampInt (-1000000) 1000000 (roundDiv (code * g.sens) 65536 + g.offset)

/-- The window state of a frame (R41). -/
def ThrmGroup.judge (g : ThrmGroup) (temp : Int) (saturated : Bool) : WindowState :=
  if saturated then .outside
  else if ((temp - g.setPoint).natAbs : Int) ≤ g.window then .inside
  else .outside

/-- The baseline fields after a frame, and whether the frame made a low reset (R35 to R39). -/
def ThermalTracker.track (t : ThermalTracker) (g : ThrmGroup) (temp : Int) (saturated : Bool) : ThermalTracker × Bool :=
  if saturated then (t, false)
  else
    match t.baseline with
    | none => ({ t with baseline := some temp, bucket := 0, lowCount := 0 }, false)
    | some b =>
      let d := temp - b
      if 0 < d then
        if d ≤ (g.nUp : Int) ∨ g.followAlways = true then
          if g.bucketLimit ≤ t.bucket + d then
            ({ t with baseline := some (min (b + g.step) 1000000), bucket := 0, lowCount := 0 }, false)
          else ({ t with bucket := t.bucket + d, lowCount := 0 }, false)
        else ({ t with lowCount := 0 }, false)
      else if d = 0 then ({ t with lowCount := 0 }, false)
      else if -d ≤ (g.nDown : Int) then ({ t with baseline := some temp, bucket := 0, lowCount := 0 }, false)
      else if t.lowCount + 1 = g.lowFrames then ({ t with baseline := some temp, bucket := 0, lowCount := 0 }, true)
      else ({ t with lowCount := t.lowCount + 1 }, false)

/-- A frame taken by the tracker (R34): converted, tracked, judged and reported. -/
def State.thermalFrame (s : State) (f : Frame) : State :=
  let g := s.model.groups.thrm
  let temp := g.convert f.temp
  let (t, low) := s.thermal.track g temp f.satT
  let w := g.judge temp f.satT
  let t := { t with temp := some temp, saturated := f.satT, window := w }
  let report : ThermalReport :=
    { frame := f.id, temp := temp, saturated := f.satT, baseline := t.baseline, window := w, lowReset := low }
  let s' := { s with thermal := t, engine := { s.engine with thermalReports := s.engine.thermalReports ++ [report] } }
  if w = s.thermal.window then s'
  else s'.postBoth (.thrm w (if f.satT then .saturated else .range) (some temp) t.baseline)

/-- THERMAL_TRACKER_FRAME (R34): the oldest frame delivered to the tracker is taken. -/
def execThermalTrackerFrame (s : State) : Result :=
  .next
    (match s.thermal.frames with
    | [] => s
    | f :: fs => State.thermalFrame { s with thermal := { s.thermal with frames := fs } } f)

/-- The baseline cleared, with the bucket and the low count (R42, R43). -/
def ThermalTracker.clearBaseline (t : ThermalTracker) : ThermalTracker :=
  { t with baseline := none, bucket := 0, lowCount := 0 }

/-- Re-initialization of the tracker by an accepted THRM write (R42). -/
def State.reinitThermal (s : State) : State :=
  let g := s.model.groups.thrm
  let t := s.thermal.clearBaseline
  let t :=
    match s.scan.latest with
    | some f => { t with temp := some (g.convert f.temp), saturated := f.satT, window := g.judge (g.convert f.temp) f.satT }
    | none => { t with temp := none, saturated := false, window := .inside }
  let s' := { s with thermal := t }
  if t.window = s.thermal.window then s' else s'.postBoth (.thrm t.window .reinit t.temp none)

/-- The thermal correction of a gate (R44). -/
def thermalCorrection (g : ThrmGroup) (temp baseline : Int) : Int :=
  clampCorrection (roundDiv (g.kT * (temp - g.setPoint) + g.kG * (temp - baseline)) 65536)

/-- The payload of LIVE (R30). -/
def State.liveBytes (s : State) : List Byte :=
  let tilts := if s.level.taken then s.level.tilts else none
  let codes := if s.level.taken then s.scan.latest else none
  mark s.level.taken ++ opt s32 4 (tilts.map (·.x)) ++ opt s32 4 (tilts.map (·.y)) ++ opt s32 4 (codes.map (·.tiltX))
    ++ opt s32 4 (codes.map (·.tiltY)) ++ u8 s.level.state.code ++ u8 s.level.debounce ++ u8 s.model.groups.tilt.debounce
    ++ mark s.level.satX ++ mark s.level.satY ++ opt s32 4 s.thermal.temp ++ opt s32 4 s.thermal.baseline
    ++ u8 s.thermal.window.code ++ mark s.thermal.saturated

/-- The rule of LIVE (R30). -/
def liveReply (payload : List Byte) (s : State) : Reply := s.sized payload 0 ⟨.okay, s.liveBytes, s⟩

/-- LIVE (R30). -/
def execLive (p : Port) (tag : Byte) (payload : List Byte) (s : State) : Result :=
  .next (s.serve p tag (liveReply payload))

end Sys2Proof.Machine
end

