-- ==== Sys2Proof/Machine/Tide.lean ====
section
/-!
DEFINITION. Chapter 5: the Tide Synthesizer and TDCP. The device cosine is computed by its Taylor series in fixed point
with 160 fractional bits. Its error stays below 2^-120 of the units of C, and no phase but the quarter turns, where C is
exact, brings 2^30 cos(2 pi theta / 2^32) closer to a half-integer than 2^-34, so the rounding is the correct one at every
phase (log entry 6).
-/

namespace Sys2Proof.Machine

/-- floor(pi × 2^160). -/
def piFixed : Nat := 4591442807048218921384805199743311128454155024418

/-- One in the fixed point of the cosine: 2^160. -/
def oneFixed : Nat := 1461501637330902918203684832716283019655932542976

/-- The sums of the even and of the odd terms of the cosine series at a squared angle, two terms at a time: from the even
term t of order 4n on, joined to the sums so far. The series ends where its term is 0. -/
def cosSums (x2 : Nat) : Nat → Nat → Nat → Nat → Nat → Nat × Nat
  | 0, _, _, pos, neg => (pos, neg)
  | _ + 1, _, 0, pos, neg => (pos, neg)
  | fuel + 1, n, t + 1, pos, neg =>
    let u := (t + 1) * x2 / oneFixed / ((4 * n + 1) * (4 * n + 2))
    cosSums x2 fuel (n + 1) (u * x2 / oneFixed / ((4 * n + 3) * (4 * n + 4))) (pos + (t + 1)) (neg + u)

/-- The device cosine in the first quarter turn, r in 0..2^30 (R67): the angle is pi r / 2^31, and the fixed point is brought
to units of 2^-30, rounded to nearest, by 2^130. -/
def cosQuarter (r : Nat) : Nat :=
  let x := piFixed * r / 2147483648
  let sums := cosSums (x * x / oneFixed) 13 0 oneFixed 0 0
  (sums.1 - sums.2 + 680564733841876926926749214863536422912) / 1361129467683753853853498429727072845824

/-- The device cosine C(θ) for θ in 0..2^32 − 1 (R67), by quarter turns of 2^30. -/
def deviceCosine (θ : Nat) : Int :=
  let r := θ % 1073741824
  match θ / 1073741824 with
  | 0 => (cosQuarter r : Int)
  | 1 => -(cosQuarter (1073741824 - r) : Int)
  | 2 => -(cosQuarter r : Int)
  | _ => (cosQuarter (1073741824 - r) : Int)

/-- The time offset (R64). -/
def timeOffset (g : TidrGroup) (t : Nat) : Int := (t : Int) - (g.epoch : Int)

/-- The longitude offset in phase units (R65). -/
def longitudeOffset (g : TidrGroup) (longitude : Int) : Int := roundDiv ((longitude - g.longitude) * 4294967296) 360000000

/-- The phase of a slot (R66); the division by 256 is by floor. -/
def slotPhase (c : TideSlot) (dt dl : Int) : Nat :=
  (((c.phase : Int) + Int.fdiv ((c.speed : Int) * dt) 256 + (c.species : Int) * dl) % 4294967296).toNat

/-- What the synthesizer hands back for one enabled slot (R63). -/
structure TideTerm where
  slot : Nat
  species : Nat
  phase : Nat
  cosine : Int
  term : Int
deriving DecidableEq, Repr

/-- The term of a slot (R68). -/
def slotTerm (c : TideSlot) (j : Nat) (dt dl : Int) : TideTerm :=
  let θ := slotPhase c dt dl
  ⟨j, c.species, θ, deviceCosine θ, roundDiv (c.amplitude * deviceCosine θ) 1073741824⟩

/-- The terms of the enabled slots, in ascending slot index from j on (R63). -/
def slotTerms (dt dl : Int) : Nat → List TideSlot → List TideTerm
  | _, [] => []
  | j, c :: cs => if c.enabled then slotTerm c j dt dl :: slotTerms dt dl (j + 1) cs else slotTerms dt dl (j + 1) cs

/-- Everything a tide computation hands back (R63). -/
structure TideValues where
  dt : Int
  dl : Int
  terms : List TideTerm
  sum : Int
  tide : Int
  correction : Int
deriving DecidableEq, Repr

/-- The factor used: 16,384 when the station has none (R69). -/
def tideFactor (f : Option Nat) : Nat := f.getD 16384

/-- The tide computation at a time, a longitude and a tide factor (R63 to R69). -/
def synthesize (g : Groups) (t : Nat) (longitude : Int) (factor : Option Nat) : TideValues :=
  let dt := timeOffset g.tidr t
  let dl := longitudeOffset g.tidr longitude
  let terms := slotTerms dt dl 0 g.tide.toList
  let sum := (terms.map (·.term)).sum
  let tide := roundDiv (sum * (tideFactor factor : Int)) 16384
  ⟨dt, dl, terms, sum, tide, clampCorrection (-tide)⟩

/-- The entry of a station, if the table holds it (chapter 8.1). -/
def State.station (s : State) (n : Nat) : Option Station := s.stations.find? fun t => decide (t.number = n)

/-- A station number in 1..65,534. -/
def stationNumber (n : Nat) : Bool := decide (1 ≤ n) && decide (n ≤ 65534)

/-- One entry of TDCP's slot list (R71). R175 names no width for the slot index and the device cosine; the model carries one
byte and a signed 32-bit field (DESIGN CHOICE, log entry 22). -/
def TideTerm.bytes (t : TideTerm) : List Byte :=
  u8 t.slot ++ u8 t.species ++ u32 t.phase ++ s32 t.cosine ++ s32 t.term

/-- The payload of an OKAY answer to TDCP (R71). -/
def tdcpBytes (station t : Nat) (factor : Option Nat) (v : TideValues) : List Byte :=
  u16 station ++ u32 t ++ s64 v.dt ++ s64 v.dl ++ mark factor.isSome ++ u16 (tideFactor factor)
    ++ v.terms.flatMap TideTerm.bytes ++ s32 v.sum ++ s32 v.tide ++ s32 v.correction

/-- The rule of TDCP (R71). -/
def tdcpReply (payload : List Byte) (s : State) : Reply :=
  s.sized payload 6 <|
    let n := u16At payload 0
    let t := u32At payload 2
    if stationNumber n then
      match s.station n with
      | none => s.refuse .none
      | some e => ⟨.okay, tdcpBytes n t e.factor (synthesize s.model.groups t e.longitude e.factor), s⟩
    else s.refuse .args

/-- TDCP (R71). -/
def execTdcp (p : Port) (tag : Byte) (payload : List Byte) (s : State) : Result :=
  .next (s.serve p tag (tdcpReply payload))

end Sys2Proof.Machine
end

