-- ==== Sys2Proof/Machine/CorrectionModel.lean ====
section
/-!
DEFINITION. Chapter 6: the Correction Model. The calibration lookup, MDWR and MDRD, SETU and SURV, MDST. The model store's
flash operation is in Machine/Archive.lean, the power-on load in Machine/StartUp.lean.
-/

namespace Sys2Proof.Machine

/-! ### The calibration lookup -/

/-- A slot contains a raw value (R74). -/
def CaliSlot.contains (c : CaliSlot) (r : Nat) : Bool := c.enabled && decide (c.start ≤ r) && decide (r ≤ c.stop)

/-- A slot's distance from a raw value outside it (R74). -/
def CaliSlot.distance (c : CaliSlot) (r : Nat) : Nat := if r < c.start then c.start - r else r - c.stop

/-- The boundary of a slot nearest a raw value outside it (R74). -/
def CaliSlot.boundary (c : CaliSlot) (r : Nat) : Nat := if r < c.start then c.start else c.stop

/-- The enabled slot with the least distance, the lowest index among equals (R74). -/
def nearestSlot (r : Nat) : List CaliSlot → Option CaliSlot
  | [] => none
  | c :: cs =>
    match nearestSlot r cs with
    | none => if c.enabled then some c else none
    | some d => if c.enabled && decide (c.distance r ≤ d.distance r) then some c else some d

/-- The slot selected for a raw value, its evaluation point, and whether the lookup is off-scale (R74). -/
def selectSlot (slots : List CaliSlot) (r : Nat) : Option (CaliSlot × Nat × Bool) :=
  match slots.find? (fun c => c.contains r) with
  | some c => some (c, r, false)
  | none => (nearestSlot r slots).map fun c => (c, c.boundary r, true)

/-- A slot's unclamped value at a point (R75). -/
def CaliSlot.eval (c : CaliSlot) (x : Nat) : Int := c.base + roundDiv (((x : Int) - (c.start : Int)) * c.factor) 65536

/-- The calibrated value of a raw value and its offscale mark (R74, R75); none when no slot is enabled. -/
def lookup (slots : List CaliSlot) (r : Nat) : Option (Int × Bool) :=
  (selectSlot slots r).map fun (c, x, off) =>
    let g := clampGravity (c.eval x)
    (g, off || decide (g ≠ c.eval x))

/-! ### Groups -/

/-- What an accepted write of a group does beside storing it (chapter 6.3). -/
def State.groupEffect (s : State) : GroupId → State
  | .tilt => s.reinitLevel
  | .thrm => s.reinitThermal
  | .scan => s.startScan
  | _ => s

/-- The record of a group with its name, index, mode and generation (R178). -/
def State.groupBytes (s : State) (id : GroupId) : List Byte :=
  id.name ++ u8 id.index ++ u8 s.model.mode.code ++ u16 s.model.generation ++ s.model.groups.record id

/-- The model with its groups replaced. -/
def State.withGroups (s : State) (g : Groups) : State := { s with model := { s.model with groups := g } }

/-- The rule of MDWR (R76): CLMP when the stored record differs from the one received. -/
def mdwrReply (payload : List Byte) (s : State) : Reply :=
  if mdwrLengths.contains payload.length then
    if s.model.mode = .survey then s.refuse .mode
    else
      match GroupId.parse (payload.take 4) (u8At payload 4) with
      | none => s.refuse .args
      | some id =>
        if payload.length = 5 + id.recordLength then
          match s.model.groups.write id (payload.drop 5) with
          | none => s.refuse .args
          | some g =>
            let t := s.withGroups g
            ⟨if g.record id = payload.drop 5 then .okay else .clmp, t.groupBytes id, t.groupEffect id⟩
        else s.refuse .args
  else s.refuse .args

/-- MDWR (R76). -/
def execMdwr (p : Port) (tag : Byte) (payload : List Byte) (s : State) : Result :=
  .next (s.serve p tag (mdwrReply payload))

/-- The rule of MDRD (R78). -/
def mdrdReply (payload : List Byte) (s : State) : Reply :=
  s.sized payload 5 <|
    match GroupId.parse (payload.take 4) (u8At payload 4) with
    | none => s.refuse .args
    | some id => ⟨.okay, s.groupBytes id, s⟩

/-- MDRD (R78). -/
def execMdrd (p : Port) (tag : Byte) (payload : List Byte) (s : State) : Result :=
  .next (s.serve p tag (mdrdReply payload))

/-! ### Modes -/

/-- MODE posted on both ports (R84). -/
def State.postMode (s : State) (kind : ModeKind) (generation : Nat) : State :=
  s.postBoth (.mode kind s.model.mode generation)

/-- A reading is queued or in flight (R79, R128). -/
def State.readingPending (s : State) : Bool := !s.engine.queue.isEmpty || s.engine.reading.isSome

/-- The mode becomes SETUP and MODE is posted (R79). -/
def State.enterSetup (s : State) : State :=
  State.postMode { s with model := { s.model with mode := .setup } } .setupEntered s.model.generation

/-- The rule of SETU (R79). -/
def setuReply (payload : List Byte) (s : State) : Reply :=
  s.sized payload 0 <|
    if s.model.mode = .setup then s.refuse .same
    else if s.readingPending then s.busy .reading
    else if s.model.storeOutstanding then s.busy .store
    else ⟨.okay, [], s.enterSetup⟩

/-- SETU (R79). -/
def execSetu (p : Port) (tag : Byte) (payload : List Byte) (s : State) : Result :=
  .next (s.serve p tag (setuReply payload))

/-- A validation check that failed: its order number, and the group and index it reports (R81). -/
structure BadModel where
  order : Nat
  group : List Byte
  index : Option Nat
deriving DecidableEq, Repr

/-- The first enabled slot whose start lies above its stop, counting from an index (R81 check 2). -/
def firstBadSlot : Nat → List CaliSlot → Option Nat
  | _, [] => none
  | i, c :: cs => if c.enabled && decide (c.stop < c.start) then some i else firstBadSlot (i + 1) cs

/-- The validation of the model: the first check that fails (R81). -/
def Groups.validate (g : Groups) : Option BadModel :=
  if g.cali.toList.any (·.enabled) then
    match firstBadSlot 0 g.cali.toList with
    | some i => some ⟨2, (GroupId.cali 0).name, some i⟩
    | none =>
      if g.gate.rawLow < g.gate.rawHigh then
        if g.tilt.hysteresis < g.tilt.threshold then none else some ⟨4, GroupId.tilt.name, none⟩
      else some ⟨3, GroupId.gate.name, none⟩
  else some ⟨1, (GroupId.cali 0).name, none⟩

/-- ARCH posted on both ports with the archive as it stands (R150). -/
def State.postArch (s : State) (kind : ArchKind) (occupation page : Option Nat) : State :=
  s.postBoth
    (.arch kind s.archive.state occupation page s.archive.writePage s.occupations.archiveQueue.length)

/-- A FULL archive released at page 0 when the wrap option is ON (R148). -/
def State.releaseArchive (s : State) : State :=
  if s.archive.state = .full ∧ s.model.groups.wrap = true then
    State.postArch { s with archive := { s.archive with state := .ready, writePage := 0 } } .released none none
  else s

/-- A successful SURV (R82): the generation advances, the Level Monitor and the baseline begin afresh, a FULL archive may
be released, the mode becomes SURVEY and MODE is posted. -/
def State.enterSurvey (s : State) : State :=
  let gen := (s.model.generation + 1) % 65536
  let s := State.reinitLevel { s with model := { s.model with generation := gen } }
  let s := State.releaseArchive { s with thermal := s.thermal.clearBaseline }
  State.postMode { s with model := { s.model with mode := .survey } } .surveyEntered gen

/-- The rule of SURV (R81, R82). R175 names no kind for the order number of the check in a BADM answer; it is one byte
(DESIGN CHOICE, log entry 22). -/
def survReply (payload : List Byte) (s : State) : Reply :=
  s.sized payload 0 <|
    if s.model.mode = .survey then s.refuse .same
    else if s.cal.result.state = .pending then s.busy .calibration
    else
      match s.model.groups.validate with
      | some b => ⟨.badm, u8 b.order ++ b.group ++ opt u8 1 b.index, s⟩
      | none => ⟨.okay, u16 s.enterSurvey.model.generation, s.enterSurvey⟩

/-- SURV (R81, R82). -/
def execSurv (p : Port) (tag : Byte) (payload : List Byte) (s : State) : Result :=
  .next (s.serve p tag (survReply payload))

/-- The rule of MDST (R87): the store waits for the flash engine from its acceptance on. -/
def mdstReply (payload : List Byte) (s : State) : Reply :=
  s.sized payload 0 <|
    if s.model.mode = .setup then s.refuse .mode
    else if s.model.storeOutstanding then s.busy .store
    else ⟨.okay, u16 s.model.generation, { s with model := { s.model with storeOutstanding := true } }⟩

/-- MDST (R87). -/
def execMdst (p : Port) (tag : Byte) (payload : List Byte) (s : State) : Result :=
  .next (s.serve p tag (mdstReply payload))

end Sys2Proof.Machine
end

