-- ==== Sys2Proof/Machine/ReadingEngine.lean ====
section
/-!
DEFINITION. Chapter 7: the Reading Engine. The queue and the tickets, the reading in flight through its states, what a gate
gathers, gate evaluation, results, cancels and RDQU.
-/

namespace Sys2Proof.Machine

/-! ### Tables the engine reads -/

/-- The occupation entry with a number, if the table holds it. -/
def State.occupation (s : State) (n : Nat) : Option Occupation :=
  s.occupations.entries.find? fun o => decide (o.number = n)

/-- The in-flight reading names an occupation. -/
def Engine.inFlightAt (e : Engine) (occ : Nat) : Bool :=
  match e.reading with
  | some r => decide (r.occupation = occ)
  | none => false

/-- The readings pending for an occupation (R128). -/
def Engine.pendingAt (e : Engine) (occ : Nat) : Nat :=
  e.queue.countP (fun q => decide (q.occupation = occ)) + (if e.inFlightAt occ then 1 else 0)

/-- The tickets held by the queue and the in-flight reading (R93). -/
def Engine.tickets (e : Engine) : List Nat :=
  e.queue.map (·.ticket) ++ (match e.reading with | some r => [r.ticket] | none => [])

/-! ### RDRQ -/

/-- The next ticket's advance, wrapping from 65,535 to 1 (R93). -/
def ticketAfter (t : Nat) : Nat := if t = 65535 then 1 else t + 1

/-- An accepted reading request: the entry joins the tail of the queue and the next ticket advances past those held (R93). -/
def Engine.accept (e : Engine) (p : Port) (occ n m r k : Nat) : Engine :=
  let q := e.queue ++ [⟨e.nextTicket, p, occ, n, m, r, k⟩]
  let held := Engine.tickets { e with queue := q }
  { e with queue := q, nextTicket := advancePast ticketAfter held held.length (ticketAfter e.nextTicket) }

/-- The rule of RDRQ (R92, R93). -/
def rdrqReply (p : Port) (payload : List Byte) (s : State) : Reply :=
  s.sized payload 8 <|
    let occ := u32At payload 0
    if s.model.mode = .setup then s.refuse .mode
    else if s.clock.time = .unset then s.refuse .time
    else
      match s.occupation occ with
      | none => s.refuse .none
      | some o =>
        if o.state ≠ .isOpen then s.refuse .shut
        else if !(s.model.groups.window p).holds o.station then s.refuse .deny
        else if s.engine.queue.length = 4 then ⟨.full, u8 0, s⟩
        else if o.results.length + s.engine.pendingAt occ = 8 then ⟨.full, u8 1, s⟩
        else
          let n := clampNat 1 32 (u8At payload 4)
          let m := clampNat 1 n (u8At payload 5)
          let r := clampNat 0 32 (u8At payload 6)
          let k := clampNat 10 16 (u8At payload 7)
          let asStored := decide (n = u8At payload 4 ∧ m = u8At payload 5 ∧ r = u8At payload 6 ∧ k = u8At payload 7)
          ⟨if asStored then .okay else .clmp, u16 s.engine.nextTicket ++ u8 n ++ u8 m ++ u8 r ++ u8 k,
            { s with engine := s.engine.accept p occ n m r k }⟩

/-- RDRQ (R92, R93). -/
def execRdrq (p : Port) (tag : Byte) (payload : List Byte) (s : State) : Result :=
  .next (s.serve p tag (rdrqReply p payload))

/-! ### The reading's states -/

/-- The engine's reading replaced. -/
def State.withReading (s : State) (r : Reading) : State := { s with engine := { s.engine with reading := some r } }

/-- No drop counted. -/
def Drops.zero : Drops := ⟨0, 0, 0, 0, 0, 0⟩

/-- Empty reading accumulators (R95). -/
def Sums.zero : Sums := ⟨0, 0, 0, 0, 0, 0, 0, 0, 0, 0, 0⟩

/-- The in-flight reading an entry becomes (R95). -/
def QueueEntry.reading (q : QueueEntry) (station generation due : Nat) : Reading :=
  { ticket := q.ticket, port := q.port, occupation := q.occupation, n := q.n, m := q.m, r := q.r, k := q.k, station := station,
    generation := generation, state := .settling due, attempts := 0, accepted := 0, drops := .zero, firstGateArmed := false,
    sums := .zero, flags := ⟨false, false, false, false⟩ }

/-- A gate armed for the reading (R97): the accumulator is emptied, the thermal reports are kept from the latest one on
(R102), and the Sensor Gate is armed. -/
def State.armReading (s : State) (r : Reading) : State :=
  let t := s.armGate .engine r.k
  { t with engine :=
    { t.engine with
      acc := .none
      kept := t.engine.latestReport.toList
      reading := some { r with state := .gating (.outstanding t.gate.armCount), firstGateArmed := true } } }

/-- The reading enters WAIT_LEVEL with a fresh level-wait timer (R96). -/
def State.waitLevel (s : State) (r : Reading) : State :=
  s.withReading { r with state := .waitLevel (s.inSeconds s.model.groups.gate.levelWait) }

/-- The settle timer's expiry: GATING when LEVEL, WAIT_LEVEL when UNLEVEL (R95). -/
def State.settled (s : State) (r : Reading) : State :=
  match s.level.state with
  | .level => s.armReading r
  | .unlevel => s.waitLevel r

/-- TAKE_HEAD (R94, R95): taken when the engine is idle and the queue is not empty; a settle interval of 0 expires at
once. -/
def execTakeHead (s : State) : Result :=
  match s.engine.reading, s.engine.queue with
  | none, q :: qs =>
    match s.occupation q.occupation with
    | none => .fault .occupationMissing
    | some o =>
      let settle := s.model.groups.gate.settle
      let r := q.reading o.station s.model.generation (s.inSeconds settle)
      let t := { s with engine := { s.engine with queue := qs, reading := some r } }
      .next (if settle = 0 then t.settled r else t)
  | _, _ => .next s

/-- SETTLE_EXPIRY (R95): taken in SETTLING when the settle timer is due. -/
def execSettleExpiry (s : State) : Result :=
  .next
    (match s.engine.reading with
    | some r =>
      match r.state with
      | .settling due => if s.reached due then s.settled r else s
      | _ => s
    | none => s)

/-! ### Ending a reading -/

/-- A reading ends: the engine becomes idle, with nothing gathered or kept for it, and RDON is posted on both ports
(R106, R111, R114). -/
def State.endReading (s : State) (r : Reading) (outcome : RdonOutcome) (cause : Option RdonCause) : State :=
  State.postBoth { s with engine := { s.engine with reading := none, acc := .none, kept := [] } }
    (.rdon r.ticket outcome cause r.occupation r.accepted r.attempts)

/-- The result of a finished reading (R107). -/
def Reading.result (r : Reading) : ReadingResult :=
  { ticket := r.ticket
    occupation := r.occupation
    station := r.station
    outcome := if r.accepted = r.n then .done else .short
    value := roundDiv r.sums.s r.accepted
    meanCal := roundDiv r.sums.gcal r.accepted
    meanTilt := roundDiv r.sums.tilt r.accepted
    meanThermal := roundDiv r.sums.thermal r.accepted
    meanTide := roundDiv r.sums.tide r.accepted
    spread := (r.sums.greatest - r.sums.least).toNat
    accepted := r.accepted
    attempts := r.attempts
    drops := r.drops
    meanTx := roundDiv r.sums.tx r.accepted
    meanTy := roundDiv r.sums.ty r.accepted
    meanTemp := roundDiv r.sums.temp r.accepted
    tideTime := r.sums.time / r.accepted
    n := r.n
    m := r.m
    k := r.k
    generation := r.generation
    flags := r.flags }

/-- A result appended to its occupation's reading list (R106, R128). -/
def appendResult (x : ReadingResult) (l : List Occupation) : List Occupation :=
  l.map fun o => if o.number = x.occupation then { o with results := o.results ++ [x] } else o

/-- The state with a result appended to its occupation. -/
def State.addResult (s : State) (x : ReadingResult) : State :=
  { s with occupations := { s.occupations with entries := appendResult x s.occupations.entries } }

/-- A reading finishes (R106): with a result, DONE or SHORT, when accepted is at least M, else FAILED, TOO_FEW. -/
def State.finish (s : State) (r : Reading) : State :=
  if r.m ≤ r.accepted then
    (s.addResult r.result).endReading r (if r.accepted = r.n then .done else .short) none
  else s.endReading r .failed (some .tooFew)

/-- LEVEL_WAIT_EXPIRY (R96): taken in WAIT_LEVEL when the level-wait timer is due. -/
def execLevelWaitExpiry (s : State) : Result :=
  .next
    (match s.engine.reading with
    | some r =>
      match r.state with
      | .waitLevel due => if s.reached due then s.endReading r .failed (some .notLevel) else s
      | _ => s
    | none => s)

/-- The decision after each gate that ends by a report (R105). -/
def State.afterGate (s : State) (r : Reading) : State :=
  if r.accepted = r.n then s.finish r
  else if r.attempts = r.n + r.r then s.finish r
  else
    match s.level.state with
    | .unlevel => s.waitLevel r
    | .level => s.armReading r

/-! ### Level notices -/

/-- An UNLEVEL notice in GATING with a gate outstanding (R98): the gate is abandoned, an attempt counted when it was
COUNTING, and the reading finishes or enters WAIT_LEVEL; a gate already IDLE is left to its report. -/
def State.loseLevel (s : State) (r : Reading) : State :=
  if s.gate.state = .idle then s
  else
    let r :=
      match s.gate.state with
      | .counting => { r with attempts := r.attempts + 1, drops := { r.drops with offLevel := r.drops.offLevel + 1 } }
      | _ => r
    let t := { s with gate := s.gate.abandon, engine := { s.engine with acc := .none, kept := [] } }
    if r.attempts = r.n + r.r then t.finish r else t.waitLevel r

/-- What a level notice does to the reading in flight (R95, R96, R98). -/
def State.noticed (s : State) (l : LevelState) : State :=
  match s.engine.reading with
  | none => s
  | some r =>
    match r.state, l with
    | .waitLevel _, .level => s.armReading r
    | .gating (.outstanding _), .unlevel => s.loseLevel r
    | _, _ => s

/-- LEVEL_NOTICE (R98): the oldest level notice is taken. -/
def execLevelNotice (s : State) : Result :=
  .next
    (match s.engine.levelNotices with
    | [] => s
    | l :: ls => State.noticed { s with engine := { s.engine with levelNotices := ls } } l)

/-! ### What a gate gathers -/

/-- A frame joins the gate accumulator (R100). -/
def GateAccumulator.add (a : GateAccumulator) (g : TiltGroup) (f : Frame) : GateAccumulator :=
  let x := g.tiltX f
  let y := g.tiltY f
  { n := a.n + 1
    sumX := a.sumX + x
    sumY := a.sumY + y
    leastX := if a.n = 0 then x else min a.leastX x
    greatestX := if a.n = 0 then x else max a.greatestX x
    leastY := if a.n = 0 then y else min a.leastY y
    greatestY := if a.n = 0 then y else max a.greatestY y
    thermalFrame := some f.id }

/-- The gate the reading in flight is waiting on. -/
def Engine.outstanding (e : Engine) : Option Nat :=
  match e.reading with
  | some r =>
    match r.state with
    | .gating (.outstanding g) => some g
    | _ => none
  | none => none

/-- GATE_ACCUMULATOR_FRAME (R100): the oldest frame delivered to the engine joins the accumulator when it belongs to the
outstanding gate, and is discarded otherwise. -/
def execGateAccumulatorFrame (s : State) : Result :=
  .next
    (match s.engine.frames with
    | [] => s
    | f :: fs =>
      let e := { s.engine with frames := fs }
      if e.outstanding = some f.gate then
        { s with engine := { e with acc := e.acc.add s.model.groups.tilt f.frame } }
      else { s with engine := e })

/-- The gate's tilt and thermal frame, settled as its completion report is taken (R101). -/
def settleGate (a : GateAccumulator) (g : TiltGroup) (inForce : Option Frame) (c : Completion) : Option HeldGate :=
  match a.thermalFrame, inForce with
  | some id, _ =>
    some ⟨c, roundDiv a.sumX a.n, roundDiv a.sumY a.n, a.greatestX - a.leastX, a.greatestY - a.leastY, id⟩
  | none, some f => some ⟨c, g.tiltX f, g.tiltY f, 0, 0, f.id⟩
  | none, none => none

/-! ### Gate evaluation -/

/-- The gate's tide time (R104). -/
def Completion.tideTime (c : Completion) : Nat :=
  if c.stepped then c.stop.seconds
  else ((c.start.seconds * 65536 + c.start.fraction) + (c.stop.seconds * 65536 + c.stop.fraction)) / 131072

/-- The raw value lies outside the band (R103). -/
def GateGroup.outOfBand (g : GateGroup) (raw : Nat) : Bool := decide (raw < g.rawLow) || decide (g.rawHigh < raw)

/-- A tilt spread exceeds the motion limit, where one is set (R103). -/
def TiltGroup.moved (g : TiltGroup) (h : HeldGate) : Bool :=
  decide (0 < g.motionLimit) && (decide (g.motionLimit < h.spreadX) || decide (g.motionLimit < h.spreadY))

/-- The temperature of a report cannot be trusted: saturated or OUTSIDE (R103). -/
def ThermalReport.untrusted (t : ThermalReport) : Bool := t.saturated || decide (t.window = .outside)

/-- A gate's corrected values (R104). -/
structure Sample where
  gcal : Int
  tilt : Int
  thermal : Int
  tide : Int
  s : Int
  offscale : Bool
  time : Nat
deriving DecidableEq, Repr

/-- The sum of a calibrated value and its corrections before the clamp (R104). -/
def sampleSum (gcal tilt thermal tide : Int) : Int := gcal + tilt + thermal + tide

/-- The sample computation of a gate that passed every check (R104). -/
def computeSample (g : Groups) (station : Station) (h : HeldGate) (temp baseline gcal : Int) (offscale : Bool) : Sample :=
  let tilt := tiltCorrection g.gate.g0 h.tx h.ty
  let thermal := thermalCorrection g.thrm temp baseline
  let tide := (synthesize g h.report.tideTime station.longitude station.factor).correction
  let sum := sampleSum gcal tilt thermal tide
  ⟨gcal, tilt, thermal, tide, clampGravity sum, offscale || decide (clampGravity sum ≠ sum), h.report.tideTime⟩

/-- The outlier check (R104). -/
def Reading.outlier (r : Reading) (limit s : Int) : Bool :=
  decide (3 ≤ r.accepted) && decide (0 < limit) && decide (limit < ((s - roundDiv r.sums.s r.accepted).natAbs : Int))

/-- An accepted gate's values join the reading accumulators and its marks the flags (R105). -/
def Reading.acceptGate (r : Reading) (h : HeldGate) (temp : Int) (x : Sample) : Reading :=
  { r with
    accepted := r.accepted + 1
    sums :=
      { s := r.sums.s + x.s
        least := if r.accepted = 0 then x.s else min r.sums.least x.s
        greatest := if r.accepted = 0 then x.s else max r.sums.greatest x.s
        gcal := r.sums.gcal + x.gcal
        tilt := r.sums.tilt + x.tilt
        thermal := r.sums.thermal + x.thermal
        tide := r.sums.tide + x.tide
        tx := r.sums.tx + h.tx
        ty := r.sums.ty + h.ty
        temp := r.sums.temp + temp
        time := r.sums.time + x.time }
    flags :=
      { r.flags with
        offscale := r.flags.offscale || x.offscale
        clockInternal := r.flags.clockInternal || decide (h.report.stop.discipline = .internal) } }

/-- The state with a gate's kept thermal reports let go once it has been evaluated (R102). -/
def State.gateOver (s : State) : State := { s with engine := { s.engine with kept := [] } }

/-- Gate evaluation (R103 to R105): the attempt is counted, the first check that fails drops the gate under its cause, and
the decision of R105 follows. -/
def State.evaluate (s : State) (r : Reading) (h : HeldGate) (t : ThermalReport) : Result :=
  let s := s.gateOver
  let g := s.model.groups
  let r := { r with attempts := r.attempts + 1 }
  if g.gate.outOfBand h.report.raw then
    .next (s.afterGate { r with drops := { r.drops with outOfBand := r.drops.outOfBand + 1 } })
  else if g.tilt.moved h then
    .next (s.afterGate { r with drops := { r.drops with motion := r.drops.motion + 1 } })
  else if t.untrusted then
    .next (s.afterGate { r with drops := { r.drops with thermal := r.drops.thermal + 1 } })
  else
    match lookup g.cali.toList h.report.raw, s.station r.station, t.baseline with
    | none, _, _ => .fault .noCalibrationInterval
    | some _, none, _ => .fault .stationMissing
    | some _, some _, none => .fault .noBaseline
    | some (gcal, off), some st, some b =>
      let x := computeSample g st h t.temp b gcal off
      if r.outlier g.gate.outlierLimit x.s then
        .next (s.afterGate { r with drops := { r.drops with outlier := r.drops.outlier + 1 } })
      else .next (s.afterGate (r.acceptGate h t.temp x))

/-- A completion report of the outstanding gate is taken (R101, R102): the gate is settled, and evaluated at once when its
thermal report is in hand. -/
def State.takeCompletion (s : State) (r : Reading) (c : Completion) : Result :=
  match settleGate s.engine.acc s.model.groups.tilt s.scan.latest c with
  | none => .fault .noFrameInForce
  | some h =>
    match s.engine.kept.find? fun t => decide (t.frame = h.thermalFrame) with
    | some t => s.evaluate r h t
    | none => .next (s.withReading { r with state := .gating (.awaiting h) })

/-- The reading in flight when it waits on a given gate. -/
def Engine.waitingOn (e : Engine) (gate : Nat) : Option Reading := if e.outstanding = some gate then e.reading else none

/-- A frame of a gate has been delivered and not yet taken (R100). -/
def Engine.frameWaiting (e : Engine) (gate : Nat) : Bool := e.frames.any fun f => decide (f.gate = gate)

/-- The oldest completion report on its way, with the reports left without it. -/
def takeCompletionReport : List GateReport → Option (Completion × List GateReport)
  | [] => none
  | .completion c :: l => some (c, l)
  | x :: l => (takeCompletionReport l).map fun y => (y.1, x :: y.2)

/-- The gate of the oldest timeout report on its way, with the reports left without it. -/
def takeTimeoutReport : List GateReport → Option (Nat × List GateReport)
  | [] => none
  | .timeout g _ _ :: l => some (g, l)
  | x :: l => (takeTimeoutReport l).map fun y => (y.1, x :: y.2)

/-- COMPLETION_REPORT (R99, R103): the oldest completion report is taken once every frame of its gate has been; a report
that does not answer the outstanding gate is discarded. -/
def execCompletionReport (s : State) : Result :=
  match takeCompletionReport s.engine.reports with
  | none => .next s
  | some (c, rest) =>
    if s.engine.frameWaiting c.gate then .next s
    else
      let t := { s with engine := { s.engine with reports := rest } }
      match s.engine.waitingOn c.gate with
      | some r => t.takeCompletion r c
      | none => .next t

/-- TIMEOUT_REPORT (R99, R103): the oldest timeout report is taken once every frame of its gate has been; it counts an
attempt and a NO_SIGNAL drop, or is discarded when it does not answer the outstanding gate. -/
def execTimeoutReport (s : State) : Result :=
  .next
    (match takeTimeoutReport s.engine.reports with
    | none => s
    | some (g, rest) =>
      if s.engine.frameWaiting g then s
      else
        let t := { s with engine := { s.engine with reports := rest } }
        match s.engine.waitingOn g with
        | some r =>
          t.gateOver.afterGate
            { r with attempts := r.attempts + 1, drops := { r.drops with noSignal := r.drops.noSignal + 1 } }
        | none => t)

/-- The reading marked by a thermal report that carries the low-reset mark (R109). -/
def Reading.sawReport (r : Reading) (t : ThermalReport) : Reading :=
  { r with flags := { r.flags with baselineReset := r.flags.baselineReset || t.lowReset } }

/-- A thermal report kept while a gate is armed and not yet evaluated (R102). -/
def Reading.keeps (r : Reading) : Bool :=
  match r.state with
  | .gating _ => true
  | _ => false

/-- THERMAL_REPORT (R102, R109): the oldest thermal report is taken, kept as the latest, judged for BASELINE_RESET, and an
evaluation awaiting it resumes. -/
def execThermalReport (s : State) : Result :=
  match s.engine.thermalReports with
  | [] => .next s
  | t :: ts =>
    let e := { s.engine with thermalReports := ts, latestReport := some t }
    match s.engine.reading with
    | none => .next { s with engine := e }
    | some r =>
      let r := r.sawReport t
      let e := { e with reading := some r, kept := if r.keeps then e.kept ++ [t] else e.kept }
      let s' := { s with engine := e }
      match r.state with
      | .gating (.awaiting h) => if h.thermalFrame = t.frame then s'.evaluate r h t else .next s'
      | _ => .next s'

/-- STEP_NOTICE (R108): a step notice is taken, and marks a reading whose first gate was armed. -/
def execStepNotice (s : State) : Result :=
  .next
    (if s.engine.stepNotices = 0 then s
    else
      let e := { s.engine with stepNotices := s.engine.stepNotices - 1 }
      match e.reading with
      | some r =>
        if r.firstGateArmed then
          { s with engine := { e with reading := some { r with flags := { r.flags with timeStepped := true } } } }
        else { s with engine := e }
      | none => { s with engine := e })

/-! ### RDCN and RDQU -/

/-- A queued reading cancelled (R113). -/
def State.cancelQueued (s : State) (q : QueueEntry) : State :=
  State.postBoth
    { s with engine := { s.engine with queue := s.engine.queue.filter fun x => decide (x.ticket ≠ q.ticket) } }
    (.rdon q.ticket .aborted (some .queued) q.occupation 0 0)

/-- The in-flight reading cancelled (R114): its gate is abandoned when one is outstanding. -/
def State.cancelInFlight (s : State) (r : Reading) : State :=
  let t :=
    match r.state with
    | .gating (.outstanding _) => { s with gate := s.gate.abandon }
    | _ => s
  t.endReading r .aborted (some .inFlight)

/-- The rule of RDCN (R112 to R114); the payload ends with QUEUED 0 or IN_FLIGHT 1. -/
def rdcnReply (p : Port) (payload : List Byte) (s : State) : Reply :=
  s.sized payload 2 <|
    let ticket := u16At payload 0
    match s.engine.queue.find? (fun q => decide (q.ticket = ticket)) with
    | some q => if q.port = p then ⟨.okay, u16 ticket ++ u8 0, s.cancelQueued q⟩ else s.refuse .deny
    | none =>
      match s.engine.reading with
      | none => s.refuse .none
      | some r =>
        if r.ticket ≠ ticket then s.refuse .none
        else if r.port = p then ⟨.okay, u16 ticket ++ u8 1, s.cancelInFlight r⟩
        else s.refuse .deny

/-- RDCN (R112). -/
def execRdcn (p : Port) (tag : Byte) (payload : List Byte) (s : State) : Result :=
  .next (s.serve p tag (rdcnReply p payload))

/-- A queue entry as RDQU reports it (R116). -/
def QueueEntry.bytes (q : QueueEntry) : List Byte :=
  u16 q.ticket ++ u8 (Port.code q.port) ++ u32 q.occupation ++ u8 q.n ++ u8 q.m ++ u8 q.r ++ u8 q.k

/-- The position of a reading's state in SETTLING, WAIT_LEVEL, GATING. -/
def ReadingState.code : ReadingState → Nat
  | .settling _ => 0
  | .waitLevel _ => 1
  | .gating _ => 2

/-- The position of the gate phase in OUTSTANDING, AWAITING_REPORT; absent outside GATING. -/
def ReadingState.phaseCode : ReadingState → Option Nat
  | .gating (.outstanding _) => some 0
  | .gating (.awaiting _) => some 1
  | _ => none

/-- The in-flight reading as RDQU reports it (R116). Each of its four flags, which chapter 7.2 lists as set or clear, is a byte,
clear 0 and set 1 (DESIGN CHOICE, log entry 22). -/
def Reading.bytes (r : Reading) : List Byte :=
  u16 r.ticket ++ u8 (Port.code r.port) ++ u32 r.occupation ++ u8 r.n ++ u8 r.m ++ u8 r.r ++ u8 r.k ++ u16 r.generation
    ++ u8 r.state.code ++ opt u8 1 r.state.phaseCode ++ u8 r.attempts ++ u8 r.accepted ++ r.drops.bytes
    ++ mark r.flags.offscale ++ mark r.flags.timeStepped ++ mark r.flags.clockInternal ++ mark r.flags.baselineReset

/-- The payload of RDQU (R116). -/
def Engine.report (e : Engine) : List Byte :=
  opt Reading.bytes 28 e.reading ++ u8 e.queue.length ++ e.queue.flatMap QueueEntry.bytes ++ u16 e.nextTicket

/-- The rule of RDQU (R116). -/
def rdquReply (payload : List Byte) (s : State) : Reply := s.sized payload 0 ⟨.okay, s.engine.report, s⟩

/-- RDQU (R116). -/
def execRdqu (p : Port) (tag : Byte) (payload : List Byte) (s : State) : Result :=
  .next (s.serve p tag (rdquReply payload))

end Sys2Proof.Machine
end

