-- ==== Sys2Proof/Machine/Stations.lean ====
section
/-!
DEFINITION. Chapter 8: the Station Table (STDF, STRM, STRD) and the Occupation Table (OCOP, OCCL, OCDS, OCRD).
-/

namespace Sys2Proof.Machine

/-- The number of occupations in the table that name a station (R120, R123). -/
def State.naming (s : State) (station : Nat) : Nat :=
  s.occupations.entries.countP fun o => decide (o.station = station)

/-- A port may modify a station (R85, R124). -/
def State.permits (s : State) (p : Port) (station : Nat) : Bool := (s.model.groups.window p).holds station

/-- The state with its Station Table replaced. -/
def State.withStations (s : State) (l : List Station) : State := { s with stations := l }

/-! ### Stations -/

/-- The entry of a station number changed, where the table holds it. -/
def updateStation (n : Nat) (f : Station → Station) (l : List Station) : List Station :=
  l.map fun t => if t.number = n then f t else t

/-- The rule of STDF (R120, R121); the payload's first byte is CREATED 0 or UPDATED 1. -/
def stdfReply (p : Port) (payload : List Byte) (s : State) : Reply :=
  s.sized payload 9 <|
    let n := u16At payload 0
    let longitude := s32At payload 2
    if !stationNumber n then s.refuse .args
    else if longitude < -180000000 ∨ 180000000 < longitude then s.refuse .args
    else
      match markAt payload 6 with
      | none => s.refuse .args
      | some given =>
        if !s.permits p n then s.refuse .deny
        else
          let asked := u16At payload 7
          let factor := if given then some (clampNat 0 32767 asked) else none
          let st : Status := if given && decide (32767 < asked) then .clmp else .okay
          match s.station n with
          | some old =>
            if 0 < s.naming n then ⟨.pend, u8 (s.naming n), s⟩
            else
              let e := { old with longitude := longitude, factor := factor }
              ⟨st, u8 1 ++ e.bytes, s.withStations (updateStation n (fun _ => e) s.stations)⟩
          | none =>
            if s.stations.length = 120 then s.refuse .full
            else
              let e : Station := ⟨n, longitude, factor, 0, none⟩
              ⟨st, u8 0 ++ e.bytes, s.withStations (s.stations ++ [e])⟩

/-- STDF (R120, R121). -/
def execStdf (p : Port) (tag : Byte) (payload : List Byte) (s : State) : Result :=
  .next (s.serve p tag (stdfReply p payload))

/-- The rule of STRM (R122). -/
def strmReply (p : Port) (payload : List Byte) (s : State) : Reply :=
  s.sized payload 2 <|
    let n := u16At payload 0
    if !stationNumber n then s.refuse .args
    else if !s.permits p n then s.refuse .deny
    else
      match s.station n with
      | none => s.refuse .none
      | some e =>
        if 0 < s.naming n then ⟨.pend, u8 (s.naming n), s⟩
        else ⟨.okay, e.bytes, s.withStations (s.stations.filter fun t => decide (t.number ≠ n))⟩

/-- STRM (R122). -/
def execStrm (p : Port) (tag : Byte) (payload : List Byte) (s : State) : Result :=
  .next (s.serve p tag (strmReply p payload))

/-- The element with the smallest key above a value. -/
def nextAbove {α : Type} (key : α → Nat) (n : Nat) : List α → Option α
  | [] => none
  | x :: xs =>
    match nextAbove key n xs with
    | none => if n < key x then some x else none
    | some y => if n < key x ∧ key x < key y then some x else some y

/-- The answer of STRD: the entry, or NONE (R123). -/
def State.stationReply (s : State) : Option Station → Reply
  | none => s.refuse .none
  | some e => ⟨.okay, e.bytes ++ u8 (s.naming e.number) ++ u8 s.stations.length, s⟩

/-- The rule of STRD (R123), with selection EXACT 0 or NEXT 1. -/
def strdReply (payload : List Byte) (s : State) : Reply :=
  s.sized payload 3 <|
    let n := u16At payload 1
    match u8At payload 0 with
    | 0 => if stationNumber n then s.stationReply (s.station n) else s.refuse .args
    | 1 => if n ≤ 65534 then s.stationReply (nextAbove (·.number) n s.stations) else s.refuse .args
    | _ => s.refuse .args

/-- STRD (R123). -/
def execStrd (p : Port) (tag : Byte) (payload : List Byte) (s : State) : Result :=
  .next (s.serve p tag (strdReply payload))

/-! ### Occupations -/

/-- The occupation counter's advance, wrapping from 2^32 − 1 to 1 (R125). -/
def counterAfter (n : Nat) : Nat := if n = 4294967295 then 1 else n + 1

/-- The table with a new occupation opened (R125, R127). -/
def OccupationTable.openAt (t : OccupationTable) (station : Nat) (openTime : Option Nat) : OccupationTable :=
  let entries := t.entries ++ [⟨t.counter, station, .isOpen, openTime, none, []⟩]
  { t with
    entries := entries
    counter := advancePast counterAfter (entries.map (·.number)) entries.length (counterAfter t.counter) }

/-- The table with an entry freed (R130, R132, R144); it leaves the archive queue where it stands there. -/
def OccupationTable.free (t : OccupationTable) (n : Nat) : OccupationTable :=
  { t with entries := t.entries.filter fun o => decide (o.number ≠ n)
           archiveQueue := t.archiveQueue.filter fun q => decide (q ≠ n) }

/-- The station's open occupation made absent when it is the one named (R130, R132). -/
def releaseOpen (o : Occupation) (l : List Station) : List Station :=
  updateStation o.station (fun t => if t.openOccupation = some o.number then { t with openOccupation := none } else t) l

/-- An entry's place in the archive queue, counted from 1 at the head (R130, R133). -/
def placeIn (n : Nat) : List Nat → Option Nat
  | [] => none
  | x :: xs => if x = n then some 1 else (placeIn n xs).map (· + 1)

/-- The rule of OCOP (R126, R127). -/
def ocopReply (p : Port) (payload : List Byte) (s : State) : Reply :=
  s.sized payload 2 <|
    let n := u16At payload 0
    if !stationNumber n then s.refuse .args
    else if !s.permits p n then s.refuse .deny
    else
      match s.station n with
      | none => s.refuse .none
      | some e =>
        match e.openOccupation with
        | some o => ⟨.held, u32 o, s⟩
        | none =>
          if s.occupations.entries.length = 12 then s.refuse .full
          else
            let number := s.occupations.counter
            let count := heldSucc e.count
            ⟨.okay, u32 number ++ opt u32 4 s.clock.openStamp ++ u8 count,
              { s with
                stations := updateStation n (fun t => { t with count := count, openOccupation := some number }) s.stations
                occupations := s.occupations.openAt n s.clock.openStamp }⟩

/-- OCOP (R126, R127). -/
def execOcop (p : Port) (tag : Byte) (payload : List Byte) (s : State) : Result :=
  .next (s.serve p tag (ocopReply p payload))

/-- The table with an occupation closed at a time and placed at the tail of the archive queue (R130, R131). -/
def OccupationTable.closeAt (t : OccupationTable) (n time : Nat) : OccupationTable :=
  { t with
    entries := t.entries.map fun o => if o.number = n then { o with state := .closed, closeTime := some time } else o
    archiveQueue := t.archiveQueue ++ [n] }

/-- An accepted OCCL (R130); the payload's first byte is EMPTY 0 or CLOSED 1. -/
def State.closeOccupation (s : State) (o : Occupation) : Reply :=
  let stations := releaseOpen o s.stations
  if o.results.isEmpty then
    ⟨.okay, u8 0, { s with stations := stations, occupations := s.occupations.free o.number }⟩
  else
    let t := s.occupations.closeAt o.number s.clock.seconds
    ⟨.okay, u8 1 ++ u32 s.clock.seconds ++ u8 o.results.length ++ u8 t.archiveQueue.length,
      { s with stations := stations, occupations := t }⟩

/-- The rule of OCCL (R129, R130). -/
def occlReply (p : Port) (payload : List Byte) (s : State) : Reply :=
  s.sized payload 4 <|
    match s.occupation (u32At payload 0) with
    | none => s.refuse .none
    | some o =>
      if !s.permits p o.station then s.refuse .deny
      else if o.state ≠ .isOpen then s.refuse .shut
      else if 0 < s.engine.pendingAt o.number then ⟨.pend, u8 (s.engine.pendingAt o.number), s⟩
      else s.closeOccupation o

/-- OCCL (R129, R130). -/
def execOccl (p : Port) (tag : Byte) (payload : List Byte) (s : State) : Result :=
  .next (s.serve p tag (occlReply p payload))

/-- An accepted OCDS (R132): the answer carries the state the occupation had and the number of results discarded. -/
def State.discardOccupation (s : State) (o : Occupation) : Reply :=
  ⟨.okay, u8 o.state.code ++ u8 o.results.length,
    { s with
      stations := if o.state = .isOpen then releaseOpen o s.stations else s.stations
      occupations := s.occupations.free o.number }⟩

/-- The rule of OCDS (R132). -/
def ocdsReply (p : Port) (payload : List Byte) (s : State) : Reply :=
  s.sized payload 4 <|
    match s.occupation (u32At payload 0) with
    | none => s.refuse .none
    | some o =>
      if !s.permits p o.station then s.refuse .deny
      else
        match o.state with
        | .staged => s.busy .staged
        | .closed => s.discardOccupation o
        | .isOpen =>
          if 0 < s.engine.pendingAt o.number then ⟨.pend, u8 (s.engine.pendingAt o.number), s⟩
          else s.discardOccupation o

/-- OCDS (R132). -/
def execOcds (p : Port) (tag : Byte) (payload : List Byte) (s : State) : Result :=
  .next (s.serve p tag (ocdsReply p payload))

/-- The occupation record (chapter 11.4): a header of 21 bytes and at most four results from an index on. -/
def State.occupationBytes (s : State) (o : Occupation) (first : Nat) : List Byte :=
  let place := if o.state = .closed then placeIn o.number s.occupations.archiveQueue else none
  let shown := (o.results.drop first).take 4
  u32 o.number ++ u16 o.station ++ u8 o.state.code
    ++ u8 (presence [o.openTime.isSome, o.closeTime.isSome, place.isSome]) ++ bare u32 4 o.openTime
    ++ bare u32 4 o.closeTime ++ u8 o.results.length ++ u8 (s.engine.pendingAt o.number) ++ bare u8 1 place ++ u8 first
    ++ u8 shown.length ++ shown.flatMap ReadingResult.bytes

/-- The answer of OCRD: the entry, or NONE (R133). -/
def State.occupationReply (s : State) (first : Nat) : Option Occupation → Reply
  | none => s.refuse .none
  | some o => ⟨.okay, s.occupationBytes o first, s⟩

/-- The rule of OCRD (R133), with selection EXACT 0 or NEXT 1. -/
def ocrdReply (payload : List Byte) (s : State) : Reply :=
  s.sized payload 6 <|
    let n := u32At payload 1
    let first := u8At payload 5
    match u8At payload 0 with
    | 0 => s.occupationReply first (s.occupation n)
    | 1 => s.occupationReply first (nextAbove (·.number) n s.occupations.entries)
    | _ => s.refuse .args

/-- OCRD (R133). -/
def execOcrd (p : Port) (tag : Byte) (payload : List Byte) (s : State) : Result :=
  .next (s.serve p tag (ocrdReply payload))

end Sys2Proof.Machine
end

