-- ==== Sys2Proof/Machine/Archive.lean ====
section
/-!
DEFINITION. Chapter 9: the Survey Archive. Pages and their conditions, staging, the flash engine's page programs and model
stores, completion and failure, ARRT, and the read cursors with ARSK, ARNX and ARST. The mount is in
Machine/StartUp.lean.
-/

namespace Sys2Proof.Machine

/-! ### Pages -/

/-- The conditions of a page (R138). -/
inductive PageCondition where
  | erased
  | invalid
  | valid
deriving DecidableEq, Repr

/-- The first address of a page. -/
def pageStart (p : Nat) : Nat := pageBytes * p

/-- The 512 bytes of a page. -/
def Flash.pageContents (f : Flash) (p : Nat) : List Byte := readRun f.cells (pageStart p) pageBytes

/-- A page's condition judged from its bytes (R177). -/
def judgePage (l : List Byte) : PageCondition :=
  if l.all (fun b => decide (b = erasedByte)) then .erased
  else if l.drop 508 = completionMarker ∧ u32At l 504 = byteSum (l.take 504) then .valid
  else .invalid

/-- A page's condition, judged from its bytes (R138, R177). -/
def Flash.condition (f : Flash) (p : Nat) : PageCondition := judgePage (f.pageContents p)

/-- The page while its program runs, and where the program fails or is cut short before its marker: the old contents are
erased and offsets 0..507 written, and the marker's four bytes are still erased, so that it reads as INVALID (the first two
steps of R138, R143, R177; that both stand from the start of the program is the model's choice, log entry 15). -/
def Flash.beginProgram (f : Flash) (p : Nat) (r : StagedRecord) : Flash :=
  { f with cells := writeRun (eraseRun f.cells (pageStart p) pageBytes) (pageStart p) (r.page.take 508) }

/-- A program whose completion marker has been written and which verifies (R138, R177). -/
def Flash.commit (f : Flash) (p : Nat) (r : StagedRecord) : Flash :=
  { f with cells := writeRun f.cells (pageStart p) r.page }

/-- The pages of which some byte is not 0xFF, in rising order. Every other page is ERASED or INVALID. -/
def pagesWritten : List Host.Cell → List Nat
  | [] => []
  | c :: m =>
    let rest := pagesWritten m
    if rest.head? = some (c.1 / pageBytes) then rest else (c.1 / pageBytes) :: rest

/-- The VALID pages in rising order, each with its occupation number. -/
def Flash.validPages (f : Flash) : List (Nat × Nat) :=
  ((pagesWritten f.cells).filter fun p => decide (f.condition p = .valid)).map fun p => (p, u32At (f.pageContents p) 0)

/-- The VALID page that an order of occupation numbers prefers, the highest page number among equals (R151, R152). -/
def preferredPage (better : Nat → Nat → Bool) (l : List (Nat × Nat)) : Option (Nat × Nat) :=
  l.foldl (fun best x => match best with | none => some x | some b => if better x.2 b.2 then some x else some b) none

/-- The VALID page holding the highest occupation number. -/
def Flash.newest (f : Flash) : Option (Nat × Nat) := preferredPage (fun x b => decide (b ≤ x)) f.validPages

/-- The VALID page holding the lowest occupation number. -/
def Flash.oldest (f : Flash) : Option (Nat × Nat) := preferredPage (fun x b => decide (x ≤ b)) f.validPages

/-! ### Staging -/

/-- A staging buffer. -/
def Archive.buffer (a : Archive) : BufferId → StagingBuffer
  | .b0 => a.buffer0
  | .b1 => a.buffer1

/-- The archive with a staging buffer replaced. -/
def Archive.setBuffer (a : Archive) (b : BufferId) (x : StagingBuffer) : Archive :=
  match b with
  | .b0 => { a with buffer0 := x }
  | .b1 => { a with buffer1 := x }

/-- The FREE buffer that staging uses, buffer 0 when both are FREE (R140). -/
def Archive.freeBuffer (a : Archive) : Option BufferId :=
  if a.buffer0 = .free then some .b0 else if a.buffer1 = .free then some .b1 else none

/-- The copy made at staging (R141). -/
def stagedRecord (o : Occupation) (t : Station) (closeTime : Nat) : StagedRecord :=
  ⟨o.number, o.station, t.longitude, t.factor, o.openTime, closeTime, o.results⟩

/-- The table with the head of the archive queue staged (R131, R140). -/
def OccupationTable.stageHead (t : OccupationTable) (n : Nat) : OccupationTable :=
  { t with entries := t.entries.map (fun o => if o.number = n then { o with state := .staged } else o)
           archiveQueue := t.archiveQueue.tail }

/-- STAGING (R140, R141): the head of the archive queue is copied into a FREE buffer, which becomes LOADED and the
later-loaded. -/
def execStaging (s : State) : Result :=
  match s.occupations.archiveQueue, s.archive.freeBuffer with
  | n :: _, some b =>
    if s.archive.state = .mounting then .next s
    else
      match s.occupation n with
      | none => .fault .occupationMissing
      | some o =>
        match s.station o.station, o.closeTime with
        | none, _ => .fault .stationMissing
        | some _, none => .fault .closeTimeMissing
        | some t, some c =>
          .next
            { s with
              archive := { s.archive.setBuffer b (.loaded (stagedRecord o t c)) with loadOrder := s.archive.loadOrder ++ [b] }
              occupations := s.occupations.stageHead n }
  | _, _ => .next s

/-! ### The flash engine -/

/-- A model store is waiting: MDST has been accepted and its store has not begun (R142). -/
def State.storeWaiting (s : State) : Bool := s.model.storeOutstanding && decide (s.archive.activity ≠ .store)

/-- START_MODEL_STORE (R142, R88): the idle engine starts a waiting store, whose first step invalidates the marker of the
image already there. -/
def execStartModelStore (s : State) : Result :=
  .next
    (if s.archive.activity = .idle ∧ s.storeWaiting = true then
      { s with archive := { s.archive with activity := .store }, flash := { s.flash with image := none } }
    else s)

/-- MODEL_STORE_COMPLETION (R88, R171). -/
def execModelStoreCompletion (verified : Bool) (s : State) : Result :=
  .next
    (if s.archive.activity = .store then
      let gen := s.model.generation
      let t :=
        { s with
          archive := { s.archive with activity := .idle }
          model := { s.model with storeOutstanding := false }
          flash := if verified then { s.flash with image := some ⟨s.model.groups, gen⟩ } else s.flash
          startUp := { s.startUp with lastStore := if verified then .stored gen else .failed gen } }
      t.postMode (if verified then .stored else .storeFailed) gen
    else s)

/-- START_PAGE_PROGRAM (R142, R143): the idle engine, with no store waiting, starts programming the earlier-loaded buffer
at the write page. -/
def execStartPageProgram (s : State) : Result :=
  .next
    (if s.archive.activity = .idle ∧ s.storeWaiting = false ∧ s.archive.state = .ready then
      match s.archive.loadOrder with
      | [] => s
      | b :: rest =>
        match s.archive.buffer b with
        | .loaded r =>
          { s with
            archive := { s.archive.setBuffer b (.programming r) with loadOrder := rest, activity := .program }
            flash := s.flash.beginProgram s.archive.writePage r }
        | _ => s
    else s)

/-- The buffer being programmed, with its record. -/
def Archive.programmingBuffer (a : Archive) : Option (BufferId × StagedRecord) :=
  match a.buffer0, a.buffer1 with
  | .programming r, _ => some (.b0, r)
  | _, .programming r => some (.b1, r)
  | _, _ => none

/-- The write page advanced by one; past 4,095 it becomes 0, and the archive becomes FULL when the wrap option is OFF
(R147). -/
def Archive.advance (a : Archive) (wrap : Bool) : Archive :=
  if a.writePage < 4095 then { a with writePage := a.writePage + 1 }
  else if wrap then { a with writePage := 0 }
  else { a with writePage := 0, state := .full }

/-- The advance of the write page makes the archive FULL (R147). -/
def Archive.fills (a : Archive) (wrap : Bool) : Bool := !decide (a.writePage < 4095) && !wrap

/-- ARCH with kind FULL when the advance made the archive FULL (R147). -/
def State.postFullIf (s : State) (full : Bool) : State := if full then s.postArch .full none none else s

/-- A page program that succeeds (R144). -/
def State.programSucceeds (s : State) (b : BufferId) (r : StagedRecord) : State :=
  let page := s.archive.writePage
  let wrap := s.model.groups.wrap
  let t :=
    { s with
      archive := { (s.archive.setBuffer b .free).advance wrap with failureCount := 0, activity := .idle }
      flash := s.flash.commit page r
      occupations := s.occupations.free r.occupation }
  (t.postArch .committed (some r.occupation) (some page)).postFullIf (s.archive.fills wrap)

/-- PAGE_PROGRAM_SUCCESS (R144, R147). -/
def execPageProgramSuccess (s : State) : Result :=
  .next
    (if s.archive.activity = .program then
      match s.archive.programmingBuffer with
      | some (b, r) => s.programSucceeds b r
      | none => s
    else s)

/-- The buffer of a failed program, LOADED again and earlier-loaded (R145, R146). -/
def Archive.reload (a : Archive) (b : BufferId) (r : StagedRecord) : Archive :=
  { a.setBuffer b (.loaded r) with loadOrder := b :: a.loadOrder, activity := .idle }

/-- A page program that fails: the first failure spends the page for a retry, the second puts the archive into FAULT
(R145, R146). -/
def State.programFails (s : State) (b : BufferId) (r : StagedRecord) : State :=
  let page := s.archive.writePage
  let wrap := s.model.groups.wrap
  let a := s.archive.reload b r
  if s.archive.failureCount = 0 then
    State.postFullIf { s with archive := { a.advance wrap with failureCount := 1 } } (s.archive.fills wrap)
  else
    State.postArch { s with archive := { a with state := .fault } } .fault (some r.occupation) (some page)

/-- PAGE_PROGRAM_FAILURE (R145, R146): the page, INVALID from its bytes while its program ran, is left so (log entry 15). -/
def execPageProgramFailure (s : State) : Result :=
  .next
    (if s.archive.activity = .program then
      match s.archive.programmingBuffer with
      | some (b, r) => s.programFails b r
      | none => s
    else s)

/-! ### Requests -/

/-- The archive resumed after a fault (R149). -/
def State.resumeArchive (s : State) : State :=
  let wrap := s.model.groups.wrap
  let a := Archive.advance { s.archive with state := .ready } wrap
  State.postArch { s with archive := { a with failureCount := 0 } } (if s.archive.fills wrap then .full else .resumed) none none

/-- The rule of ARRT (R149). -/
def arrtReply (payload : List Byte) (s : State) : Reply :=
  s.sized payload 0 <|
    if s.archive.state = .fault then
      let t := s.resumeArchive
      ⟨.okay, u8 t.archive.state.code ++ u16 t.archive.writePage, t⟩
    else s.refuse .same

/-- ARRT (R149). -/
def execArrt (p : Port) (tag : Byte) (payload : List Byte) (s : State) : Result :=
  .next (s.serve p tag (arrtReply payload))

/-- The requesting port's cursor set to a page (R152). -/
def State.seek (s : State) (p : Port) (page : Nat) : State := { s with archive := s.archive.setCursor p page }

/-- The answer of ARSK for a page found, or EMPT (R152). -/
def State.seekReply (s : State) (p : Port) : Option Nat → Reply
  | none => s.refuse .empt
  | some page => ⟨.okay, u16 page, s.seek p page⟩

/-- The rule of ARSK (R152), with selection PAGE 0, OLDEST 1 or NEWEST 2. -/
def arskReply (p : Port) (payload : List Byte) (s : State) : Reply :=
  s.sized payload 3 <|
    match u8At payload 0 with
    | 0 => if u16At payload 1 < pageCount then s.seekReply p (some (u16At payload 1)) else s.refuse .args
    | 1 => s.seekReply p (s.flash.oldest.map (·.1))
    | 2 => s.seekReply p (s.flash.newest.map (·.1))
    | _ => s.refuse .args

/-- ARSK (R152). -/
def execArsk (p : Port) (tag : Byte) (payload : List Byte) (s : State) : Result :=
  .next (s.serve p tag (arskReply p payload))

/-- The requesting port's cursor advanced by one, from 4,095 to 0 (R153). -/
def State.stepCursor (s : State) (p : Port) : State := s.seek p ((s.archive.cursor p + 1) % pageCount)

/-- The rule of ARNX (R153, R177); an EMPT answer ends with ERASED 0 or INVALID 1. -/
def arnxReply (p : Port) (payload : List Byte) (s : State) : Reply :=
  s.sized payload 0 <|
    let page := s.archive.cursor p
    if s.archive.activity = .program ∧ page = s.archive.writePage then s.busy .programming
    else
      match s.flash.condition page with
      | .valid => ⟨.okay, u16 page ++ (s.flash.pageContents page).take 504, s.stepCursor p⟩
      | .erased => ⟨.empt, u16 page ++ u8 0, s.stepCursor p⟩
      | .invalid => ⟨.empt, u16 page ++ u8 1, s.stepCursor p⟩

/-- ARNX (R153). -/
def execArnx (p : Port) (tag : Byte) (payload : List Byte) (s : State) : Result :=
  .next (s.serve p tag (arnxReply p payload))

/-- The occupation a buffer holds, absent when it is FREE (R154). -/
def StagingBuffer.occupation : StagingBuffer → Option Nat
  | .free => none
  | .loaded r => some r.occupation
  | .programming r => some r.occupation

/-- The earlier-loaded buffer when both are LOADED (R154). -/
def Archive.earlier (a : Archive) : Option BufferId :=
  match a.loadOrder with
  | b :: _ :: _ => some b
  | _ => none

/-- The payload of ARST (R154). -/
def State.archiveBytes (s : State) (p : Port) : List Byte :=
  let a := s.archive
  u8 a.state.code ++ u16 a.writePage ++ u8 a.failureCount ++ mark s.model.groups.wrap ++ u8 a.buffer0.code
    ++ opt u32 4 a.buffer0.occupation ++ u8 a.buffer1.code ++ opt u32 4 a.buffer1.occupation
    ++ opt (fun b => u8 (BufferId.code b)) 1 a.earlier ++ u8 a.activity.code ++ mark s.storeWaiting
    ++ u8 s.occupations.archiveQueue.length ++ u16 (a.cursor p)

/-- The rule of ARST (R154). -/
def arstReply (p : Port) (payload : List Byte) (s : State) : Reply := s.sized payload 0 ⟨.okay, s.archiveBytes p, s⟩

/-- ARST (R154). -/
def execArst (p : Port) (tag : Byte) (payload : List Byte) (s : State) : Result :=
  .next (s.serve p tag (arstReply p payload))

end Sys2Proof.Machine
end

