-- ==== Sys2Proof/Machine/StartUp.lean ====
section
/-!
DEFINITION. Resets and start-up (chapters 6.7, 9.6, 10.6, 10.7): POWER and LINE resets, the ends of the model load and of
the mount, RSTR and the two events that take the restart, and IDEN.
-/

namespace Sys2Proof.Machine

/-! ### POWER and LINE -/

/-- What a POWER or LINE reset leaves of the flash operation in flight (R89, R156): where the completion marker had
already been written, the page is VALID with its record, or the image is valid with the model stored; otherwise the page
stays INVALID and no valid image stands. -/
def State.cutFlash (s : State) (markerWritten : Bool) : Flash :=
  if markerWritten then
    match s.archive.activity, s.archive.programmingBuffer with
    | .program, some (_, r) => s.flash.commit s.archive.writePage r
    | .store, _ => { s.flash with image := some ⟨s.model.groups, s.model.generation⟩ }
    | _, _ => s.flash
  else s.flash

/-- POWER_RESET (R170). -/
def execPowerReset (markerWritten : Bool) (s : State) : Result :=
  .next (State.afterReset .power (s.cutFlash markerWritten) s.incoming s.pending)

/-- LINE_RESET (R170). -/
def execLineReset (markerWritten : Bool) (s : State) : Result :=
  .next (State.afterReset .line (s.cutFlash markerWritten) s.incoming s.pending)

/-- RSET posted on both ports (R173). -/
def State.postReset (s : State) : State := s.postBoth (.rset s.startUp.lastReset s.model.mode s.model.generation)

/-- The model the load provides: the stored image in SURVEY, or the defaults in SETUP with generation 0 (R90). -/
def Flash.loadModel (f : Flash) : CorrectionModel :=
  match f.image with
  | some i => ⟨i.groups, .survey, i.generation, false⟩
  | none => ⟨.defaults, .setup, 0, false⟩

/-- MODEL_LOAD_END (R90, R18, R173): in LOAD, the model is loaded, the scan begins, RSET is posted and the mount begins. -/
def execModelLoadEnd (s : State) : Result :=
  .next
    (if s.startUp.phase = .load then
      let t := State.startScan { s with model := s.flash.loadModel }
      State.postReset
        { t with startUp := { t.startUp with phase := .mount }, archive := { t.archive with activity := .mount } }
    else s)

/-- The write page after the mount (R151). -/
def mountPage (newest : Option (Nat × Nat)) : Nat :=
  match newest with
  | none => 0
  | some (p, _) => if p < 4095 then p + 1 else 0

/-- The occupation counter after the mount (R151). -/
def mountCounter (newest : Option (Nat × Nat)) : Nat :=
  match newest with
  | none => 1
  | some (_, n) => counterAfter n

/-- The mount leaves the archive FULL: the highest record stands on the last page and the wrap option is OFF (R151). -/
def mountFull (newest : Option (Nat × Nat)) (wrap : Bool) : Bool :=
  match newest with
  | none => false
  | some (p, _) => !decide (p < 4095) && !wrap

/-- MOUNT_END (R151): in MOUNT, the pages decide the write page and the occupation counter, the archive becomes READY or
FULL, ARCH is posted and the part is ready. -/
def execMountEnd (s : State) : Result :=
  .next
    (if s.startUp.phase = .mount then
      let newest := s.flash.newest
      let full := mountFull newest s.model.groups.wrap
      let t :=
        { s with
          archive :=
            { s.archive with state := if full then .full else .ready, writePage := mountPage newest, activity := .idle }
          occupations := { s.occupations with counter := mountCounter newest }
          startUp := { s.startUp with phase := .ready } }
      t.postArch (if full then .full else .mounted) none none
    else s)

/-! ### RESTART -/

/-- The blocks that begin afresh at a RESTART (R17, R18, R27, R118, R172). What other blocks had sent to the engine and it
had not yet taken is dropped with the readings it belonged to (R99). The Thermal Tracker keeps every field R45 names; the
scanner's frames still on their way to it go with the scan they came from, so that no frame reaches it before the first of
the new scan (R18; DEDUCED, log entry 11). -/
def State.restartBlocks (s : State) : State :=
  State.startScan
    { s with
      gate := { SensorGate.reset with armCount := s.gate.armCount }
      cal := .reset
      scan := { s.scan with latest := none }
      level := .reset
      thermal := { s.thermal with frames := [] }
      engine := { Engine.reset with nextTicket := s.engine.nextTicket } }

/-- The restart is taken for the port whose RSTR caused it: the blocks begin afresh, then the ports take their restart
step (R172). -/
def State.restart (s : State) (p : Port) : State :=
  let t := s.restartBlocks
  State.postReset
    { t with portA := t.portA.restarted, portB := t.portB.restarted
             startUp := { t.startUp with phase := .ready, lastReset := .restart p, restart := none } }

/-- The rule of RSTR (R172). -/
def rstrReply (p : Port) (payload : List Byte) (s : State) : Reply :=
  s.sized payload 0
    ⟨.okay, [],
      { s with startUp := { s.startUp with phase := .restart, restart := some ⟨p, s.now + Config.restartPeriods⟩ } }⟩

/-- RSTR (R172). -/
def execRstr (p : Port) (tag : Byte) (payload : List Byte) (s : State) : Result :=
  .next (s.serve p tag (rstrReply p payload))

/-- The restart timer runs for a port (R172). -/
def State.restartingFor (s : State) (p : Port) : Bool :=
  match s.startUp.restart with
  | some t => decide (t.port = p)
  | none => false

/-- RESPONSE_SENT (R162, R172): the last byte of the port's response has gone and its receiver hunts again; where it was
the response to RSTR, the restart is taken. -/
def execResponseSent (p : Port) (s : State) : Result :=
  .next
    (if s.answering p then
      let t := s.setPort p { s.port p with response := none, sent := 0 }
      if s.restartingFor p then t.restart p else t
    else s)

/-- RESTART_TIMER_EXPIRY (R172): taken when the restart timer is due. -/
def execRestartTimerExpiry (s : State) : Result :=
  .next
    (match s.startUp.restart with
    | some t => if s.reached t.due then s.restart t.port else s
    | none => s)

/-! ### IDEN -/

/-- The identification text, GC-24 (R171). -/
def identification : List Byte := [byte 71, byte 67, byte 45, byte 50, byte 52]

/-- The payload of IDEN (R171); mode and generation are absent during LOAD. -/
def State.identity (s : State) (p : Port) : List Byte :=
  let loading := decide (s.startUp.phase = .load)
  identification ++ u8 Config.revision ++ u8 (Port.code p) ++ u8 s.startUp.lastReset.code
    ++ opt (fun q => u8 (Port.code q)) 1 s.startUp.lastReset.port ++ u8 s.startUp.phase.code
    ++ opt (fun m => u8 (Mode.code m)) 1 (if loading then none else some s.model.mode)
    ++ opt u16 2 (if loading then none else some s.model.generation) ++ mark s.model.storeOutstanding
    ++ u8 s.startUp.lastStore.code ++ opt u16 2 s.startUp.lastStore.generation

/-- The rule of IDEN (R171). -/
def idenReply (p : Port) (payload : List Byte) (s : State) : Reply := s.sized payload 0 ⟨.okay, s.identity p, s⟩

/-- IDEN (R171), answered in every phase. -/
def execIden (p : Port) (tag : Byte) (payload : List Byte) (s : State) : Result :=
  .next (s.serveAlways p tag (idenReply p payload))

end Sys2Proof.Machine
end

