-- ==== Sys2Proof/Machine/Ports.lean ====
section
/-!
DEFINITION. Chapter 10: the byte time of the two ports, frames that are no request, the events of the receivers, the
attention pulse, and the requests of the ports themselves (EVRD, EVAK, EVCF, PEER).
-/

namespace Sys2Proof.Machine

/-! ### One byte time -/

/-- The next byte of a pending response goes out; past its end Port A would drive fill bytes. With the last byte the end of
the response joins the waiting commands (R158, R159, R162). -/
def State.sendByte (s : State) (p : Port) (response : List Byte) : State :=
  let q := s.port p
  let t := s.setPort p { q with sent := q.sent + 1, driven := some (response.getD q.sent fillByte) }
  if response.length ≤ q.sent + 1 then { t with pending := t.pending ++ [.responseSent p] } else t

/-- What a port's receiver holds after a byte: the frame in progress with the byte, or nothing once the frame is over or the
byte is skipped (R160). -/
def receivedAfter (p : Port) (l : List Byte) : List Byte :=
  match receiveFrame p l with
  | .incomplete => l
  | _ => []

/-- The command a run of bytes completes, as the waiting commands take it (R160, R161). -/
def commandsOf (p : Port) (l : List Byte) : List Instr :=
  match receiveFrame p l with
  | .command c => [c]
  | _ => []

/-- A byte reaches a port that has no response to send: its receiver takes it, and Port A drives the fill byte meanwhile
(R158, R160). -/
def State.receiveByte (s : State) (p : Port) (v : Byte) : State :=
  let q := s.port p
  let l := q.received ++ [v]
  let t := s.setPort p
    { q with received := receivedAfter p l, driven := match p with | .a => some fillByte | .b => q.driven }
  { t with pending := t.pending ++ commandsOf p l }

/-- One byte time of a port. A byte on its way is received, or ignored while a response is unsent (R162). A response gives
its next byte, on Port B at once (R159), on Port A only as the master clocks a byte in (R158). -/
def State.portByteTime (s : State) (p : Port) : State :=
  let t := { s with incoming := s.incoming.set p (s.incoming.get p).tail }
  match (s.port p).response, s.incoming.get p with
  | none, [] => s
  | none, v :: _ => t.receiveByte p v
  | some l, _ :: _ => t.sendByte p l
  | some l, [] =>
    match p with
    | .a => s
    | .b => s.sendByte .b l

/-- One byte time of both ports; the two work independently, and a request that Port A completes in it waits ahead of Port
B's (R161 allows either order; log entry 16). -/
def State.byteTime (s : State) : State := (s.portByteTime .a).portByteTime .b

/-! ### Frames that are no request -/

/-- UNKNOWN_REQUEST (R161), answered UNKN in every phase; the name and the payload play no other part. -/
def execUnknownRequest (p : Port) (tag : Byte) (_name _payload : List Byte) (s : State) : Result :=
  .next (s.serveAlways p tag fun s => s.refuse .unkn)

/-- The FRAM answer, with its reason byte: LENGTH 0 or CHECK 1 (R174). -/
def framReply (reason : Nat) (s : State) : Reply := ⟨.fram, u8 reason, s⟩

/-- The longest payload of a frame (chapter 10.2). -/
def maxPayload : Nat := 520

/-- FRAME_LENGTH_ERROR (R160): a length above 520 is answered FRAM, reason LENGTH. -/
def execFrameLengthError (p : Port) (tag : Byte) (length : BitVec 16) (s : State) : Result :=
  .next (if maxPayload < length.toNat then s.serveAlways p tag (framReply 0) else s)

/-- FRAME_CHECK_ERROR (R160), answered FRAM, reason CHECK. -/
def execFrameCheckError (p : Port) (tag : Byte) (s : State) : Result :=
  .next (s.serveAlways p tag (framReply 1))

/-- The frame in progress on a port is discarded, and its receiver hunts again (R158, R159). -/
def State.discardFrame (s : State) (p : Port) : State := s.setPort p { s.port p with received := [] }

/-- LINE_ERROR on Port B (R159). -/
def execLineError (s : State) : Result := .next (s.discardFrame .b)

/-- FRAME_GAP_EXPIRY on Port B (R159). -/
def execFrameGapExpiry (s : State) : Result := .next (s.discardFrame .b)

/-- SELECT_RELEASE on Port A (R158); a response in progress keeps its place. -/
def execSelectRelease (s : State) : Result := .next (s.discardFrame .a)

/-- ATN_PULSE (R165). -/
def execAtnPulse (p : Port) (s : State) : Result := .next (s.setPort p (s.port p).givePulse)

/-! ### Event flags -/

/-- A port configuration as EVCF carries it (chapter 11.2.1). -/
def PortConfig.bytes (c : PortConfig) : List Byte :=
  c.mask.toList.flatMap mark ++ u8 c.policy.code ++ u8 c.line.code

/-- One flag as EVRD reports it: count, detail length, detail (chapter 11.3). -/
def Flag.bytes (f : Flag) : List Byte :=
  let detail := match f.detail with | some d => d.bytes | none => []
  u8 f.count ++ u8 detail.length ++ detail

/-- The payload of EVRD (R166, chapter 11.3). -/
def PortState.flagBytes (q : PortState) : List Byte := q.config.bytes ++ q.flags.toList.flatMap Flag.bytes

/-- The rule of EVRD (R166). -/
def evrdReply (p : Port) (payload : List Byte) (s : State) : Reply :=
  s.sized payload 0
    ⟨.okay, (s.port p).flagBytes,
      match (s.port p).config.policy with
      | .readClears => s.setPort p (s.port p).clearCounts
      | .explicit => s⟩

/-- EVRD (R166). -/
def execEvrd (p : Port) (tag : Byte) (payload : List Byte) (s : State) : Result :=
  .next (s.serve p tag (evrdReply p payload))

/-- The rule of EVAK (R167). -/
def evakReply (p : Port) (payload : List Byte) (s : State) : Reply :=
  s.sized payload 2 <|
    match EventFlag.ofCode (u8At payload 0) with
    | none => s.refuse .args
    | some f =>
      let q := (s.port p).acknowledge f (u8At payload 1)
      ⟨.okay, u8 (q.flags.get f).count, s.setPort p q⟩

/-- EVAK (R167). -/
def execEvak (p : Port) (tag : Byte) (payload : List Byte) (s : State) : Result :=
  .next (s.serve p tag (evakReply p payload))

/-- The acknowledge policy at an offset. -/
def policyAt (l : List Byte) (i : Nat) : Option AckPolicy :=
  match u8At l i with
  | 0 => some .readClears
  | 1 => some .explicit
  | _ => none

/-- The line mode at an offset. -/
def lineModeAt (l : List Byte) (i : Nat) : Option LineMode :=
  match u8At l i with
  | 0 => some .level
  | 1 => some .pulse
  | _ => none

/-- The enable mask in the first eight bytes; none when a mark is neither OFF nor ON (R168). -/
def maskAt (l : List Byte) : Option (PerFlag Bool) := do
  let rdon ← markAt l 0
  let levl ← markAt l 1
  let mode ← markAt l 2
  let clck ← markAt l 3
  let arch ← markAt l 4
  let peer ← markAt l 5
  let thrm ← markAt l 6
  let rset ← markAt l 7
  pure ⟨rdon, levl, mode, clck, arch, peer, thrm, rset⟩

/-- The configuration an EVCF payload carries; none when a field lies outside its set (R168). -/
def PortConfig.parse (l : List Byte) : Option PortConfig := do
  let mask ← maskAt l
  let policy ← policyAt l 8
  let line ← lineModeAt l 9
  pure ⟨mask, policy, line⟩

/-- The rule of EVCF (R168). -/
def evcfReply (p : Port) (payload : List Byte) (s : State) : Reply :=
  s.sized payload 10 <|
    match PortConfig.parse payload with
    | none => s.refuse .args
    | some c => ⟨.okay, c.bytes, s.setPort p ((s.port p).configure c)⟩

/-- EVCF (R168). -/
def execEvcf (p : Port) (tag : Byte) (payload : List Byte) (s : State) : Result :=
  .next (s.serve p tag (evcfReply p payload))

/-- The rule of PEER (R169): the note is posted on the other port. -/
def peerReply (p : Port) (payload : List Byte) (s : State) : Reply :=
  if payload.length ≤ 64 then ⟨.okay, [], s.post p.other (.peer p payload)⟩ else s.refuse .args

/-- PEER (R169). -/
def execPeer (p : Port) (tag : Byte) (payload : List Byte) (s : State) : Result :=
  .next (s.serve p tag (peerReply p payload))

end Sys2Proof.Machine
end

