-- ==== Sys2Proof/Machine/Dispatch.lean ====
section
/-!
DEFINITION. One arm per command: each calls the command's own meaning.
-/

namespace Sys2Proof.Machine

def exec (i : Instr) (s : State) : Host.Outcome State Fault Refusal :=
  match i with
  | .powerReset markerWritten => Sys2Proof.Machine.execPowerReset markerWritten s
  | .lineReset markerWritten => Sys2Proof.Machine.execLineReset markerWritten s
  | .modelLoadEnd => Sys2Proof.Machine.execModelLoadEnd s
  | .mountEnd => Sys2Proof.Machine.execMountEnd s
  | .cgat p tag payload => Sys2Proof.Machine.execCgat p tag payload s
  | .cgrd p tag payload => Sys2Proof.Machine.execCgrd p tag payload s
  | .live p tag payload => Sys2Proof.Machine.execLive p tag payload s
  | .ckst p tag payload => Sys2Proof.Machine.execCkst p tag payload s
  | .ckrd p tag payload => Sys2Proof.Machine.execCkrd p tag payload s
  | .tdcp p tag payload => Sys2Proof.Machine.execTdcp p tag payload s
  | .mdwr p tag payload => Sys2Proof.Machine.execMdwr p tag payload s
  | .mdrd p tag payload => Sys2Proof.Machine.execMdrd p tag payload s
  | .setu p tag payload => Sys2Proof.Machine.execSetu p tag payload s
  | .surv p tag payload => Sys2Proof.Machine.execSurv p tag payload s
  | .mdst p tag payload => Sys2Proof.Machine.execMdst p tag payload s
  | .rdrq p tag payload => Sys2Proof.Machine.execRdrq p tag payload s
  | .rdcn p tag payload => Sys2Proof.Machine.execRdcn p tag payload s
  | .rdqu p tag payload => Sys2Proof.Machine.execRdqu p tag payload s
  | .stdf p tag payload => Sys2Proof.Machine.execStdf p tag payload s
  | .strm p tag payload => Sys2Proof.Machine.execStrm p tag payload s
  | .strd p tag payload => Sys2Proof.Machine.execStrd p tag payload s
  | .ocop p tag payload => Sys2Proof.Machine.execOcop p tag payload s
  | .occl p tag payload => Sys2Proof.Machine.execOccl p tag payload s
  | .ocds p tag payload => Sys2Proof.Machine.execOcds p tag payload s
  | .ocrd p tag payload => Sys2Proof.Machine.execOcrd p tag payload s
  | .arrt p tag payload => Sys2Proof.Machine.execArrt p tag payload s
  | .arsk p tag payload => Sys2Proof.Machine.execArsk p tag payload s
  | .arnx p tag payload => Sys2Proof.Machine.execArnx p tag payload s
  | .arst p tag payload => Sys2Proof.Machine.execArst p tag payload s
  | .evrd p tag payload => Sys2Proof.Machine.execEvrd p tag payload s
  | .evak p tag payload => Sys2Proof.Machine.execEvak p tag payload s
  | .evcf p tag payload => Sys2Proof.Machine.execEvcf p tag payload s
  | .peer p tag payload => Sys2Proof.Machine.execPeer p tag payload s
  | .iden p tag payload => Sys2Proof.Machine.execIden p tag payload s
  | .rstr p tag payload => Sys2Proof.Machine.execRstr p tag payload s
  | .unknownRequest p tag name payload => Sys2Proof.Machine.execUnknownRequest p tag name payload s
  | .frameLengthError p tag length => Sys2Proof.Machine.execFrameLengthError p tag length s
  | .frameCheckError p tag => Sys2Proof.Machine.execFrameCheckError p tag s
  | .lineError => Sys2Proof.Machine.execLineError s
  | .frameGapExpiry => Sys2Proof.Machine.execFrameGapExpiry s
  | .selectRelease => Sys2Proof.Machine.execSelectRelease s
  | .responseSent p => Sys2Proof.Machine.execResponseSent p s
  | .restartTimerExpiry => Sys2Proof.Machine.execRestartTimerExpiry s
  | .atnPulse p => Sys2Proof.Machine.execAtnPulse p s
  | .startEdge => Sys2Proof.Machine.execStartEdge s
  | .sensorEdge edges => Sys2Proof.Machine.execSensorEdge edges s
  | .completionEdge => Sys2Proof.Machine.execCompletionEdge s
  | .gateTimeout => Sys2Proof.Machine.execGateTimeout s
  | .frameArrival => Sys2Proof.Machine.execFrameArrival s
  | .levelMonitorFrame => Sys2Proof.Machine.execLevelMonitorFrame s
  | .thermalTrackerFrame => Sys2Proof.Machine.execThermalTrackerFrame s
  | .gateAccumulatorFrame => Sys2Proof.Machine.execGateAccumulatorFrame s
  | .calibrationAccumulatorFrame => Sys2Proof.Machine.execCalibrationAccumulatorFrame s
  | .calibrationGateEnd => Sys2Proof.Machine.execCalibrationGateEnd s
  | .internalTick => Sys2Proof.Machine.execInternalTick s
  | .secondPulseInternal => Sys2Proof.Machine.execSecondPulseInternal s
  | .secondPulseDisciplined => Sys2Proof.Machine.execSecondPulseDisciplined s
  | .pulseWindowExpiry => Sys2Proof.Machine.execPulseWindowExpiry s
  | .takeHead => Sys2Proof.Machine.execTakeHead s
  | .settleExpiry => Sys2Proof.Machine.execSettleExpiry s
  | .levelWaitExpiry => Sys2Proof.Machine.execLevelWaitExpiry s
  | .levelNotice => Sys2Proof.Machine.execLevelNotice s
  | .completionReport => Sys2Proof.Machine.execCompletionReport s
  | .timeoutReport => Sys2Proof.Machine.execTimeoutReport s
  | .thermalReport => Sys2Proof.Machine.execThermalReport s
  | .stepNotice => Sys2Proof.Machine.execStepNotice s
  | .staging => Sys2Proof.Machine.execStaging s
  | .startModelStore => Sys2Proof.Machine.execStartModelStore s
  | .startPageProgram => Sys2Proof.Machine.execStartPageProgram s
  | .pageProgramSuccess => Sys2Proof.Machine.execPageProgramSuccess s
  | .pageProgramFailure => Sys2Proof.Machine.execPageProgramFailure s
  | .modelStoreCompletion verified => Sys2Proof.Machine.execModelStoreCompletion verified s
  | .referencePeriodEnd periods => Sys2Proof.Machine.execReferencePeriodEnd periods s
  | .analogConversion channel code => Sys2Proof.Machine.execAnalogConversion channel code s

end Sys2Proof.Machine
end

