-- ==== Sys2Proof/Safety.lean ====
section
/-!
DEFINITION. What the manual promises of every state it lets the part reach, in the terms the claims use: the attention
lines, the ranges of the model, the tickets, the counts of readings and results, the tables with the staging buffers, the
level state, and `Sound`, the states in which no command stops.
-/

namespace Sys2Proof

/-- The payload length each request of a fixed length allows (R161, R176, chapter 11.2.1); none for MDWR, PEER and every
command that is no request of the manual. -/
def Instr.fixedLength : Instr → Option Nat
  | .cgat .. => some 1
  | .ckst .. => some 4
  | .tdcp .. => some 6
  | .mdrd .. => some 5
  | .rdrq .. => some 8
  | .rdcn .. => some 2
  | .stdf .. => some 9
  | .strm .. => some 2
  | .strd .. => some 3
  | .arsk .. => some 3
  | .ocop .. => some 2
  | .occl .. => some 4
  | .ocds .. => some 4
  | .ocrd .. => some 6
  | .evak .. => some 2
  | .evcf .. => some 10
  | .cgrd .. | .live .. | .ckrd .. | .setu .. | .surv .. | .mdst .. | .rdqu .. | .arrt .. | .arnx .. | .arst .. | .evrd ..
  | .iden .. | .rstr .. => some 0
  | _ => none

/-- The command is a request of the manual other than IDEN (R161). -/
def Instr.startsBusy : Instr → Bool
  | .iden .. | .unknownRequest .. => false
  | i => i.request.isSome

end Sys2Proof

namespace Sys2Proof.Machine

/-- A port takes requests by their own rules: no response of its own is pending (R162), and the part is ready (R161). -/
abbrev State.takes (s : State) (p : Port) : Prop := (s.port p).response = none ∧ s.startUp.phase = .ready

/-- The command takes a POWER or LINE reset (R170). -/
def Resets (c : Instr) : Prop := ∃ m, c = .powerReset m ∨ c = .lineReset m

/-- The command takes the restart that an RSTR on a port has asked for: the last byte of that port's response goes, or the
restart timer is due (R172). -/
def Restarts (c : Instr) (s : State) (p : Port) : Prop :=
  ∃ due, s.startUp.restart = some ⟨p, due⟩ ∧
    ((c = .responseSent p ∧ (s.port p).response ≠ none) ∨ (c = .restartTimerExpiry ∧ due ≤ s.now))

/-- A port's flags after a posting: its flag's count one higher, held at 255, with the detail posted; every other flag as
it was (R163). -/
def Posted (old new : PerFlag Flag) (d : Detail) : Prop :=
  (new.get d.flag).count = min ((old.get d.flag).count + 1) 255 ∧ (new.get d.flag).detail = some d ∧
    ∀ f, f ≠ d.flag → new.get f = old.get f

/-- The value a counter advances to: of those that follow the old one by one or more advances, the first that nothing holds
(R93, R125). -/
def FirstFree (after : Nat → Nat) (held : List Nat) (old new : Nat) : Prop :=
  new ∉ held ∧ ∃ i, new = after^[i + 1] old ∧ ∀ j, j < i → after^[j + 1] old ∈ held

/-! ### Attention lines -/

/-- The line is as the flags, the mask and the line mode have it: in LEVEL mode asserted exactly when some enabled flag has
a count above zero (R164), in PULSE mode resting released (R165). -/
def PortState.LineFollows (q : PortState) : Prop :=
  match q.config.line with
  | .level => q.atn = true ↔ ∃ f, q.config.mask.get f = true ∧ 0 < (q.flags.get f).count
  | .pulse => q.atn = false

/-- Both lines are as their flags, masks and modes have them. -/
def State.LinesFollow (s : State) : Prop := s.portA.LineFollows ∧ s.portB.LineFollows

/-! ### Counts that are held -/

/-- Every flag's count and the pending pulse count lie within 0..255 (R163, R165). -/
def PortState.CountsHeld (q : PortState) : Prop := (∀ f, (q.flags.get f).count ≤ 255) ∧ q.pulses ≤ 255

/-- Both ports' counts lie within 0..255. -/
def State.CountsHeld (s : State) : Prop := s.portA.CountsHeld ∧ s.portB.CountsHeld

/-! ### Receivers and responses -/

/-- Each port's receiver holds no more than the beginning of one frame (R160), and nothing while a response is unsent
(R162); and a response whose last byte has gone is about to end (R158). -/
structure State.PortsInOrder (s : State) : Prop where
  frames : ∀ p, receiveFrame p (s.port p).received = .incomplete
  deaf : ∀ p, (s.port p).response ≠ none → (s.port p).received = []
  place : ∀ p l, (s.port p).response = some l → (s.port p).sent < l.length ∨ .responseSent p ∈ s.pending

/-! ### The model's ranges -/

/-- A value that a signed 32-bit field carries. -/
abbrev Signed32 (v : Int) : Prop := -2147483648 ≤ v ∧ v ≤ 2147483647

/-- A value within a range, both ends included. -/
abbrev Within (lo hi v : Int) : Prop := lo ≤ v ∧ v ≤ hi

/-- CALI in range (R73). -/
abbrev CaliSlot.InRange (c : CaliSlot) : Prop :=
  c.start ≤ 4294967295 ∧ c.stop ≤ 4294967295 ∧ Signed32 c.base ∧ Signed32 c.factor

/-- TILT in range (R20). -/
abbrev TiltGroup.InRange (g : TiltGroup) : Prop :=
  Signed32 g.zeroX ∧ Signed32 g.zeroY ∧ Signed32 g.sensX ∧ Signed32 g.sensY ∧ Within 1 1000000 g.threshold ∧
    Within 0 1000000 g.hysteresis ∧ 1 ≤ g.debounce ∧ g.debounce ≤ 255 ∧ Within 0 2000000 g.motionLimit

/-- THRM in range (R33). -/
abbrev ThrmGroup.InRange (g : ThrmGroup) : Prop :=
  Signed32 g.sens ∧ Within (-1000000) 1000000 g.offset ∧ Within (-1000000) 1000000 g.setPoint ∧
    Within 0 2000000 g.window ∧ Signed32 g.kT ∧ Signed32 g.kG ∧ g.nUp ≤ 65535 ∧ g.nDown ≤ 65535 ∧
    Within 1 1000000 g.bucketLimit ∧ Within 1 10000 g.step ∧ 1 ≤ g.lowFrames ∧ g.lowFrames ≤ 255

/-- TIDE in range (R61). -/
abbrev TideSlot.InRange (t : TideSlot) : Prop :=
  t.species ≤ 3 ∧ t.speed ≤ 268435455 ∧ t.phase ≤ 4294967295 ∧ Within 0 1000000 t.amplitude

/-- TIDR in range (R62). -/
abbrev TidrGroup.InRange (g : TidrGroup) : Prop := Within (-180000000) 180000000 g.longitude ∧ g.epoch ≤ 4294967295

/-- GATE in range (R77). -/
abbrev GateGroup.InRange (g : GateGroup) : Prop :=
  g.rawLow ≤ 4294967295 ∧ g.rawHigh ≤ 4294967295 ∧ Within 1 6000 g.gateLimit ∧ Within 0 600 g.settle ∧
    Within 1 600 g.levelWait ∧ Within 0 50000000 g.outlierLimit ∧ Within 976000 984000 g.g0

/-- SCAN's averaging count is one of its four values (R9). -/
abbrev ScanGroup.InRange (g : ScanGroup) : Prop :=
  g.averaging = 1 ∨ g.averaging = 2 ∨ g.averaging = 4 ∨ g.averaging = 8

/-- WIND in range (R85). -/
abbrev Window.InRange (w : Window) : Prop := 1 ≤ w.first ∧ w.first ≤ 65534 ∧ 1 ≤ w.last ∧ w.last ≤ 65534

/-- Every group lies within the ranges its rule gives. -/
structure Groups.InRange (g : Groups) : Prop where
  cali : ∀ c ∈ g.cali.toList, CaliSlot.InRange c
  tilt : g.tilt.InRange
  thrm : g.thrm.InRange
  tide : ∀ t ∈ g.tide.toList, TideSlot.InRange t
  tidr : g.tidr.InRange
  gate : g.gate.InRange
  scan : g.scan.InRange
  windA : g.windA.InRange
  windB : g.windB.InRange

/-- The model in use and the stored image lie within the ranges of every group. -/
structure State.ModelInRange (s : State) : Prop where
  model : s.model.groups.InRange
  image : ∀ i, s.flash.image = some i → i.groups.InRange

/-- The model a reading may run under is one that validation has passed (R81, R94): SURVEY only over a valid model, the
stored image valid, a store only in SURVEY, and no reading queued or in flight in SETUP or before the part is ready. -/
structure State.ModelValid (s : State) : Prop where
  survey : s.model.mode = .survey → s.model.groups.validate = none
  image : ∀ i, s.flash.image = some i → i.groups.validate = none
  storing : s.archive.activity = .store → s.model.storeOutstanding = true
  outstanding : s.model.storeOutstanding = true → s.model.mode = .survey
  setup : s.model.mode = .setup → s.engine.queue = [] ∧ s.engine.reading = none
  loading : s.startUp.phase = .load ∨ s.startUp.phase = .mount → s.engine.queue = [] ∧ s.engine.reading = none

/-! ### Tickets -/

/-- The queue holds at most 4 entries, no two queued or in-flight readings share a ticket, the next ticket is none of
theirs, and it and they lie in 1..65,535 (R93, R94). -/
structure Engine.TicketsDistinct (e : Engine) : Prop where
  length : e.queue.length ≤ 4
  distinct : e.tickets.Nodup
  fresh : e.nextTicket ∉ e.tickets
  next : 1 ≤ e.nextTicket ∧ e.nextTicket ≤ 65535
  range : ∀ t ∈ e.tickets, 1 ≤ t ∧ t ≤ 65535

/-! ### The counts of readings and results -/

/-- The six drop counts together. -/
def Drops.total (d : Drops) : Nat := d.noSignal + d.outOfBand + d.offLevel + d.motion + d.thermal + d.outlier

/-- The stored N, M, R and k lie as R93 clamps them. -/
abbrev Clamped (n m r k : Nat) : Prop := 1 ≤ m ∧ m ≤ n ∧ n ≤ 32 ∧ r ≤ 32 ∧ 10 ≤ k ∧ k ≤ 16

/-- A reading in flight has gates left to run, and its accepted and dropped attempts are all its attempts (R103, R105). -/
abbrev Reading.CountsAddUp (r : Reading) : Prop :=
  Clamped r.n r.m r.r r.k ∧ r.accepted < r.n ∧ r.attempts < r.n + r.r ∧ r.accepted + r.drops.total = r.attempts

/-- A result's counts (R107): 1 ≤ M ≤ accepted ≤ N ≤ 32, and accepted plus the drop counts is attempts, at most 64. -/
abbrev ReadingResult.CountsAddUp (x : ReadingResult) : Prop :=
  1 ≤ x.m ∧ x.m ≤ x.accepted ∧ x.accepted ≤ x.n ∧ x.n ≤ 32 ∧ x.accepted + x.drops.total = x.attempts ∧ x.attempts ≤ 64

/-- The counts of every queue entry, of the reading in flight and of every result in a reading list add up. -/
structure State.CountsAddUp (s : State) : Prop where
  queue : ∀ q ∈ s.engine.queue, Clamped q.n q.m q.r q.k
  reading : ∀ r, s.engine.reading = some r → r.CountsAddUp
  results : ∀ o ∈ s.occupations.entries, ∀ x ∈ o.results, x.CountsAddUp

/-- The sums of a reading in flight stay within what its accepted gates can give, each sample being within ±2,000,000,000
and each correction within ±50,000,000 (R104, R105). -/
structure Reading.SumsInRange (r : Reading) : Prop where
  value : Within (-2000000000 * r.accepted) (2000000000 * r.accepted) r.sums.s
  cal : Within (-2000000000 * r.accepted) (2000000000 * r.accepted) r.sums.gcal
  tilt : Within 0 (50000000 * r.accepted) r.sums.tilt
  thermal : Within (-50000000 * r.accepted) (50000000 * r.accepted) r.sums.thermal
  tide : Within (-50000000 * r.accepted) (50000000 * r.accepted) r.sums.tide
  least : Within (-2000000000) 2000000000 r.sums.least
  greatest : Within (-2000000000) 2000000000 r.sums.greatest

/-- A result within the bounds R107 gives. -/
structure ReadingResult.InRange (x : ReadingResult) : Prop where
  value : Within (-2000000000) 2000000000 x.value
  cal : Within (-2000000000) 2000000000 x.meanCal
  tilt : Within 0 50000000 x.meanTilt
  thermal : Within (-50000000) 50000000 x.meanThermal
  tide : Within (-50000000) 50000000 x.meanTide
  spread : x.spread ≤ 4000000000

/-- Every result in a reading list lies within the bounds of R107, and the reading in flight is on its way to one: its
sums are in range, M is at least 1, and local gravity is not negative. -/
structure State.ResultsInRange (s : State) : Prop where
  results : ∀ o ∈ s.occupations.entries, ∀ x ∈ o.results, x.InRange
  reading : ∀ r, s.engine.reading = some r → r.SumsInRange ∧ 1 ≤ r.m
  queue : ∀ q ∈ s.engine.queue, 1 ≤ q.m
  gravity : 0 ≤ s.model.groups.gate.g0
  image : ∀ i, s.flash.image = some i → 0 ≤ i.groups.gate.g0

/-! ### The tables -/

/-- The occupations the staging buffers hold. -/
def Archive.staged (a : Archive) : List Nat := [a.buffer0, a.buffer1].filterMap StagingBuffer.occupation

/-- The Station Table, the Occupation Table, the archive queue, the staging buffers and the pending readings agree. -/
structure State.TablesAgree (s : State) : Prop where
  /-- Station numbers are distinct, at most 120 (R119). -/
  stations : (s.stations.map (·.number)).Nodup ∧ s.stations.length ≤ 120
  /-- Occupation numbers are distinct, at most 12 (R125, R126). -/
  occupations : (s.occupations.entries.map (·.number)).Nodup ∧ s.occupations.entries.length ≤ 12
  /-- The next occupation number is not 0 and no entry holds it (R125). -/
  counter : s.occupations.counter ∉ s.occupations.entries.map (·.number) ∧
    1 ≤ s.occupations.counter ∧ s.occupations.counter ≤ 4294967295
  /-- Every occupation names a station of the table (R122). -/
  named : ∀ o ∈ s.occupations.entries, ∃ t ∈ s.stations, t.number = o.station
  /-- A station's open occupation is its one occupation in state OPEN (R119). -/
  opened : ∀ t ∈ s.stations, ∀ n, t.openOccupation = some n ↔
    ∃ o ∈ s.occupations.entries, o.number = n ∧ o.station = t.number ∧ o.state = .isOpen
  /-- The archive queue is the CLOSED occupations without duplicate (R131). -/
  queue : s.occupations.archiveQueue.Nodup ∧ ∀ n, n ∈ s.occupations.archiveQueue ↔
    ∃ o ∈ s.occupations.entries, o.number = n ∧ o.state = .closed
  /-- The buffers hold the STAGED occupations, each once (R140). -/
  staged : s.archive.staged.Nodup ∧ ∀ n, n ∈ s.archive.staged ↔
    ∃ o ∈ s.occupations.entries, o.number = n ∧ o.state = .staged
  /-- A CLOSED or STAGED occupation has a close time (R130). -/
  closed : ∀ o ∈ s.occupations.entries, o.state ≠ .isOpen → o.closeTime.isSome = true
  /-- Results and pending readings number at most 8 (R92, R128). -/
  places : ∀ o ∈ s.occupations.entries, o.results.length + s.engine.pendingAt o.number ≤ 8
  /-- A queued reading's occupation is in the table and OPEN (R134). -/
  queued : ∀ q ∈ s.engine.queue, ∃ o ∈ s.occupations.entries, o.number = q.occupation ∧ o.state = .isOpen
  /-- The in-flight reading's occupation is in the table, OPEN and at the reading's station (R134). -/
  inFlight : ∀ r, s.engine.reading = some r →
    ∃ o ∈ s.occupations.entries, o.number = r.occupation ∧ o.state = .isOpen ∧ o.station = r.station
  /-- Before the part is ready after a POWER or LINE reset no occupation is in the table (R136). -/
  loading : s.startUp.phase = .load ∨ s.startUp.phase = .mount → s.occupations.entries = []

/-! ### The level state -/

/-- LEVEL means a frame with unsaturated tilt channels at or below the leave bound (R23); before the model is loaded no
frame has been delivered (R18), and the hysteresis is not negative (R20). -/
structure State.LevelMeansLevel (s : State) : Prop where
  level : s.level.state = .level →
    s.level.satX = false ∧ s.level.satY = false ∧ ∃ t, s.level.tilts = some t ∧ t.m ≤ s.model.groups.tilt.leaveBound
  loading : s.startUp.phase = .load → s.level.state = .unlevel ∧ s.level.frames = [] ∧ s.scan.arrivalDue = none
  hysteresis : 0 ≤ s.model.groups.tilt.hysteresis
  image : ∀ i, s.flash.image = some i → 0 ≤ i.groups.tilt.hysteresis

/-! ### The clock -/

/-- The pulse counts stay below 3, and the counts of the other discipline stay 0 (R50 to R53). -/
structure Clock.CountsInRange (c : Clock) : Prop where
  seconds : c.seconds ≤ 4294967295
  good : c.good ≤ 2
  miss : c.miss ≤ 2
  bad : c.bad ≤ 2
  internal : c.discipline = .internal → c.miss = 0 ∧ c.bad = 0
  pulse : c.discipline = .pulse → c.good = 0
  preload : ∀ v, c.preload = some v → v ≤ 4294967295 ∧ c.time = .set

/-! ### The archive -/

/-- The write page lies in 0..4095 and the failure count in 0..1 (chapter 9.1). -/
abbrev Archive.InRange (a : Archive) : Prop := a.writePage ≤ 4095 ∧ a.failureCount ≤ 1

/-! ### States in which no command stops -/

/-- A report that can be trusted carries a baseline (R44). -/
abbrev ThermalReport.Usable (t : ThermalReport) : Prop := t.untrusted = false → t.baseline.isSome = true

/-- The state is one the manual's rules let the part reach, as far as a command's stopping depends on it. -/
structure State.Sound (s : State) : Prop where
  tables : s.TablesAgree
  model : s.ModelValid
  /-- A frame is in force wherever a gate may run (R101). -/
  inForce : s.scan.latest = none →
    s.level.state = .unlevel ∧ s.level.frames = [] ∧ LevelState.level ∉ s.engine.levelNotices ∧
      ∀ r, s.engine.reading = some r → r.keeps = false
  /-- Every thermal report handed to the engine is usable (R44). -/
  reports : (∀ t ∈ s.engine.thermalReports, t.Usable) ∧ (∀ t ∈ s.engine.kept, t.Usable) ∧
    ∀ t, s.engine.latestReport = some t → t.Usable

end Sys2Proof.Machine
end

