-- ==== Sys2Proof/Certificates/Slice0/Obligations.lean ====
section
/-!
DEFINITION. The statements for the provers. A command's statement gives the state it answers as an equation, so that it
says at once what the command does, what it leaves and that it completes; a port "takes" a request when no response of its
own is pending and the part is ready. A statement over every state that holds only where the manual's rules keep a state
has such an invariant as its premise, and that invariant is a statement of its own.
-/

open Sys2Proof Sys2Proof.Machine

/-! ### The queue of commands -/

/-- One step runs the command at the front of the queue on the state with the queue's rest. On an empty queue one byte time of
the ports passes, Port A's part of it before Port B's, and where no byte is on its way and Port B has no response to send
the part idles (the model's choices, log entries 4 and 16). -/
def Obligations.StepRunsTheFrontCommand : Prop :=
  (∀ (c : Instr) (rest : List Instr) (s : State),
    step { s with pending := c :: rest } = exec c { s with pending := rest }) ∧
  (∀ s : State, s.pending = [] → step s = .next ((s.portByteTime .a).portByteTime .b)) ∧
  ∀ s : State, s.pending = [] → s.incoming = ⟨[], []⟩ → s.portB.response = none → step s = .next s

/-- No command touches the queue of waiting commands, or the bytes on their way to the ports. Both stand outside the part: they
are fields of the model's own, which the manual does not name, and that no command and no reset touches them is the model's
choice (log entries 16 and 18). -/
def Obligations.ExecLeavesTheQueue : Prop :=
  ∀ (c : Instr) (s t : State), exec c s = .next t → t.pending = s.pending ∧ t.incoming = s.incoming

/-! ### Frames and serving -/

/-- A response frame is 9 bytes and its payload: sync, tag, status letters, length, payload, and a check byte that makes the
byte sum a multiple of 256 (R174, chapters 10.2 and 11.1). -/
def Obligations.ResponseFramesAreWellFormed : Prop :=
  ∀ (tag : Byte) (st : Status) (payload : List Byte), payload.length ≤ 520 →
    (responseFrame tag st payload).length = 9 + payload.length ∧
    byteSum (responseFrame tag st payload) % 256 = 0 ∧
    (responseFrame tag st payload).take 6 = [0xC5, tag] ++ st.name ∧
    u16At (responseFrame tag st payload) 6 = payload.length ∧
    ((responseFrame tag st payload).drop 8).take payload.length = payload

/-- The receiver reads the frame of every well-formed request command as that command, and every shorter part of it as a
frame in progress, so that a frame clocked in byte by byte puts its command, and nothing else, among those waiting (R160,
R161, R174). A hunting receiver skips every byte but 0xC5, which begins a frame (R160, R174). In one byte time, with no
response to send, a port takes the next byte on its way, Port A driving the fill byte 0x00; with a response to send it drives
the response's next byte and ignores the byte that comes, Port A only as a byte is clocked in, Port B at once; and with the
last byte the end of the response is due (R158, R159, R160, R162; the two commands join the queue's end, log entry 16). -/
def Obligations.FramesAreReceivedAsSent : Prop :=
  (∀ (i : Instr) (p : Port) (tag : Byte) (name : List Byte), i.request = some (p, tag, name) → i.wellFormed = true →
    receiveFrame p i.frame = .command i ∧
    (∀ n, n < i.frame.length → receiveFrame p (i.frame.take n) = .incomplete) ∧
    ∀ (s : State) (rest : List Byte), (s.port p).response = none → (s.port p).received = [] →
      s.incoming.get p = i.frame ++ rest →
      (fun u => u.portByteTime p)^[i.frame.length] s =
        { s.setPort p { s.port p with driven := if p = .a then some 0x00 else (s.port p).driven } with
          incoming := s.incoming.set p rest
          pending := s.pending ++ [i] }) ∧
  (∀ p : Port, receiveFrame p [0xC5] = .incomplete ∧ ∀ v : Byte, v ≠ 0xC5 → receiveFrame p [v] = .skipped) ∧
  ∀ (s t : State) (p : Port), t = { s with incoming := s.incoming.set p (s.incoming.get p).tail } →
    ((s.port p).response = none → s.incoming.get p = [] → s.portByteTime p = s) ∧
    (∀ (v : Byte) (l rest : List Byte) (d : Option Byte), (s.port p).response = none → s.incoming.get p = v :: rest →
      l = (s.port p).received ++ [v] → d = (if p = .a then some 0x00 else (s.port p).driven) →
      (receiveFrame p l = .incomplete →
        s.portByteTime p = t.setPort p { s.port p with received := l, driven := d }) ∧
      (receiveFrame p l = .skipped ∨ receiveFrame p l = .trailing →
        s.portByteTime p = t.setPort p { s.port p with received := [], driven := d }) ∧
      ∀ c, receiveFrame p l = .command c →
        s.portByteTime p =
          { t.setPort p { s.port p with received := [], driven := d } with pending := s.pending ++ [c] }) ∧
    ∀ (l : List Byte) (q : PortState), (s.port p).response = some l →
      q = { s.port p with sent := (s.port p).sent + 1, driven := some (l.getD (s.port p).sent 0x00) } →
      (p = .a → s.incoming.a = [] → s.portByteTime p = s) ∧
      (p = .b ∨ s.incoming.get p ≠ [] →
        ((s.port p).sent + 1 < l.length → s.portByteTime p = t.setPort p q) ∧
        (l.length ≤ (s.port p).sent + 1 →
          s.portByteTime p = { t.setPort p q with pending := s.pending ++ [.responseSent p] }))

/-- How a frame is served before its own rule applies: a port with a response not yet sent in full ignores every frame
(R162); in every phase but READY every request but IDEN is answered BUSY, cause STARTING and the phase; and in READY a
payload of a length the request does not allow is answered ARGS (R161); that MDWR's length is judged before its mode is the
model's choice (log entry 14). None of the three changes anything else. -/
def Obligations.FramesAreServedInOrder : Prop :=
  (∀ (s : State) (p : Port), (s.port p).response ≠ none →
    (∀ (c : Instr) (tag : Byte) (name : List Byte), c.request = some (p, tag, name) → exec c s = .next s) ∧
    (∀ (tag : Byte) (n : BitVec 16), exec (.frameLengthError p tag n) s = .next s) ∧
    ∀ tag : Byte, exec (.frameCheckError p tag) s = .next s) ∧
  (∀ (c : Instr) (s : State) (p : Port) (tag : Byte) (name : List Byte),
    c.request = some (p, tag, name) → c.startsBusy = true → (s.port p).response = none → s.startUp.phase ≠ .ready →
    exec c s = .next (s.answer p tag .busy [0, byte s.startUp.phase.code])) ∧
  ∀ (s : State) (p : Port) (tag : Byte), s.takes p →
    (∀ (c : Instr) (name l : List Byte) (n : Nat), c.request = some (p, tag, name) → c.payload = some l →
      c.fixedLength = some n → l.length ≠ n → exec c s = .next (s.answer p tag .args [])) ∧
    (∀ l : List Byte, 64 < l.length → exec (.peer p tag l) s = .next (s.answer p tag .args [])) ∧
    ∀ l : List Byte, l.length ∉ [22, 34, 43, 19, 13, 33, 7, 10, 6] →
      exec (.mdwr p tag l) s = .next (s.answer p tag .args [])

/-- Every request that a port takes is answered with its tag and one status word, and unless that is OKAY, CLMP or EMPT
the answer is all that changes (R161). -/
def Obligations.RefusedRequestsChangeNothing : Prop :=
  ∀ (c : Instr) (s : State) (p : Port) (tag : Byte) (name : List Byte),
    c.request = some (p, tag, name) → (s.port p).response = none →
    ∃ t st payload, exec c s = .next t ∧ (t.port p).response = some (responseFrame tag st payload) ∧
      (st ≠ .okay → st ≠ .clmp → st ≠ .empt → t = s.answer p tag st payload)

/-- A request on one port leaves the other port's receiver, its response with the place in it, and its configuration alone
(R158, R162, R168). -/
def Obligations.RequestsLeaveTheOtherPort : Prop :=
  ∀ (c : Instr) (s t : State) (p : Port) (tag : Byte) (name : List Byte),
    c.request = some (p, tag, name) → exec c s = .next t →
    (t.port p.other).received = (s.port p.other).received ∧ (t.port p.other).response = (s.port p.other).response ∧
      (t.port p.other).sent = (s.port p.other).sent ∧ (t.port p.other).driven = (s.port p.other).driven ∧
      (t.port p.other).config = (s.port p.other).config

/-- Frames that are no request of the manual: an unknown name is answered UNKN, a length above 520 FRAM with reason 0, a
wrong byte sum FRAM with reason 1, in every phase (R160, R161, R174); that FRAME_LENGTH_ERROR with a length in range changes
nothing is the model's choice (log entry 3). A line error or a gap on Port B and a release of A_SEL discard that port's
partial frame and nothing else; a response in progress stays, and keeps its place (R158, R159). -/
def Obligations.FramesThatAreNoRequest : Prop :=
  (∀ (s : State) (p : Port) (tag : Byte), (s.port p).response = none →
    (∀ name l : List Byte, exec (.unknownRequest p tag name l) s = .next (s.answer p tag .unkn [])) ∧
    (∀ n : BitVec 16, exec (.frameLengthError p tag n) s =
      .next (if 520 < n.toNat then s.answer p tag .fram [0] else s)) ∧
    exec (.frameCheckError p tag) s = .next (s.answer p tag .fram [1])) ∧
  ∀ s : State,
    exec .lineError s = .next { s with portB := { s.portB with received := [] } } ∧
    exec .frameGapExpiry s = .next { s with portB := { s.portB with received := [] } } ∧
    exec .selectRelease s = .next { s with portA := { s.portA with received := [] } }

/-! ### Event flags and attention lines -/

/-- A posting raises its own flag's count by one, held at 255, and replaces its detail; every other flag, the
configuration, the receiver and the response with its place stay. In PULSE mode an enabled posting adds one pulse, held at 255; otherwise
no pulse is added (R163, R165). A posting to both ports is one to each, and changes nothing but the ports. -/
def Obligations.PostingsCountAndReplace : Prop :=
  (∀ (q : PortState) (d : Detail),
    Posted q.flags (q.post d).flags d ∧ (q.post d).config = q.config ∧ (q.post d).received = q.received ∧
    (q.post d).response = q.response ∧ (q.post d).sent = q.sent ∧ (q.post d).driven = q.driven ∧
    (q.post d).pulsesGiven = q.pulsesGiven ∧ (q.post d).LineFollows ∧
    (q.post d).pulses =
      if q.config.line = .pulse ∧ q.config.mask.get d.flag = true then min (q.pulses + 1) 255 else q.pulses) ∧
  ∀ (s : State) (d : Detail), s.postBoth d = { s with portA := s.portA.post d, portB := s.portB.post d }

/-- Every step keeps both attention lines as the flags, the masks and the line modes have them, and every count of
postings and of pulses within 0..255 (R163 to R165); and every receiver within one frame, empty while a response is unsent,
the response's place within the response until its end is due (R158, R160, R162). -/
def Obligations.StepKeepsThePorts : Prop :=
  (∀ s t : State, s.LinesFollow → step s = .next t → t.LinesFollow) ∧
  (∀ s t : State, s.CountsHeld → step s = .next t → t.CountsHeld) ∧
  ∀ s t : State, s.PortsInOrder → step s = .next t → t.PortsInOrder

/-- EVRD answers the port's configuration, mark by mark, policy and line mode, then count, detail length and detail of each
of the eight flags in order (R166, chapter 11.3; the policy and the line mode are numbered as R164 names them); under
READ_CLEARS every count of that port becomes 0, the details are kept and the line follows; under EXPLICIT nothing changes
(R166). EVAK subtracts the smaller of the count and the number seen from one flag's count, keeps its detail and every other
flag, and answers the count left; a flag outside the eight is refused with ARGS (R167). And a master finds in the bytes of a
detail, at the offsets of the table of chapter 11.3, the fields that were posted; the numbering of the archive states in the
ARCH detail is read from the table of chapter 9.1 (log entry 13). -/
def Obligations.FlagsAreReadAndAcknowledged : Prop :=
  (∀ (l : List Byte) (ticket occ accepted attempts : Nat) (o : RdonOutcome) (c : Option RdonCause),
    ticket ≤ 65535 → occ ≤ 4294967295 → accepted ≤ 255 → attempts ≤ 255 →
    l = Detail.bytes (.rdon ticket o c occ accepted attempts) →
    l.length = 10 ∧ u16At l 0 = ticket ∧
    u8At l 2 = (match o with | .done => 0 | .short => 1 | .failed => 2 | .aborted => 3) ∧
    u8At l 3 = (match c with
      | none => 0 | some .notLevel => 1 | some .tooFew => 2 | some .queued => 3 | some .inFlight => 4) ∧
    u32At l 4 = occ ∧ u8At l 8 = accepted ∧ u8At l 9 = attempts) ∧
  (∀ (l : List Byte) (st : LevelState) (c : LevlCause) (tilts : Option Tilts), l = Detail.bytes (.levl st c tilts) →
    l.length = 11 ∧ u8At l 0 = (if st = .level then 1 else 0) ∧
    u8At l 1 = (match c with | .entered => 0 | .exceeded => 1 | .saturated => 2 | .reinit => 3) ∧
    (tilts = none → l.drop 2 = List.replicate 9 0) ∧
    ∀ t, tilts = some t → Signed32 t.x → Signed32 t.y → u8At l 2 = 1 ∧ s32At l 3 = t.x ∧ s32At l 7 = t.y) ∧
  (∀ (l : List Byte) (k : ModeKind) (m : Mode) (gen : Nat), gen ≤ 65535 → l = Detail.bytes (.mode k m gen) →
    l.length = 4 ∧ u8At l 0 = (match k with | .setupEntered => 0 | .surveyEntered => 1 | .stored => 2 | .storeFailed => 3) ∧
    u8At l 1 = (if m = .survey then 1 else 0) ∧ u16At l 2 = gen) ∧
  (∀ (l : List Byte) (k : ClckKind) (d : Discipline) (c : Option ClckCause) (advanced : Option Bool) (seconds : Nat)
      (move : Option Int), seconds ≤ 4294967295 → l = Detail.bytes (.clck k d c advanced seconds move) →
    l.length = 16 ∧ u8At l 0 = (match k with | .discipline => 0 | .loaded => 1 | .stepped => 2) ∧
    u8At l 1 = (if d = .pulse then 1 else 0) ∧
    u8At l 2 = (match c with | none => 0 | some .qualified => 1 | some .misses => 2 | some .badPulses => 3) ∧
    u8At l 3 = (if advanced = none then 0 else if advanced = some false then 1 else 2) ∧ u32At l 4 = seconds ∧
    ((u32At l 8 + 4294967296 * u32At l 12 : Nat) : Int) = move.getD 0 % 18446744073709551616) ∧
  (∀ (l : List Byte) (k : ArchKind) (st : ArchiveState) (occ page : Option Nat) (write waiting : Nat),
    (∀ n, occ = some n → n ≤ 4294967295) → (∀ n, page = some n → n ≤ 65535) → write ≤ 65535 → waiting ≤ 255 →
    l = Detail.bytes (.arch k st occ page write waiting) →
    l.length = 12 ∧
    u8At l 0 = (match k with
      | .committed => 0 | .full => 1 | .fault => 2 | .resumed => 3 | .released => 4 | .mounted => 5) ∧
    u8At l 1 = (match st with | .mounting => 0 | .ready => 1 | .full => 2 | .fault => 3) ∧
    u8At l 2 = (if occ = none then 0 else 1) + (if page = none then 0 else 2) ∧ u8At l 3 = waiting ∧
    u32At l 4 = occ.getD 0 ∧ u16At l 8 = page.getD 0 ∧ u16At l 10 = write) ∧
  (∀ (sender : Port) (note : List Byte),
    Detail.bytes (.peer sender note) = (if sender = .a then 0 else 1) :: note) ∧
  (∀ (l : List Byte) (w : WindowState) (c : ThrmCause) (temp base : Option Int),
    (∀ v, temp = some v → Signed32 v) → (∀ v, base = some v → Signed32 v) → l = Detail.bytes (.thrm w c temp base) →
    l.length = 11 ∧ u8At l 0 = (if w = .inside then 0 else 1) ∧
    u8At l 1 = (match c with | .range => 0 | .saturated => 1 | .reinit => 2) ∧
    u8At l 2 = (if temp = none then 0 else 1) + (if base = none then 0 else 2) ∧
    s32At l 3 = temp.getD 0 ∧ s32At l 7 = base.getD 0) ∧
  (∀ (l : List Byte) (c : ResetCause) (m : Mode) (gen : Nat), gen ≤ 65535 → l = Detail.bytes (.rset c m gen) →
    l.length = 5 ∧
    ((c = .power ∧ u8At l 0 = 0 ∧ u8At l 1 = 2) ∨ (c = .line ∧ u8At l 0 = 1 ∧ u8At l 1 = 2) ∨
      (c = .restart .a ∧ u8At l 0 = 2 ∧ u8At l 1 = 0) ∨ (c = .restart .b ∧ u8At l 0 = 2 ∧ u8At l 1 = 1)) ∧
    u8At l 2 = (if m = .survey then 1 else 0) ∧ u16At l 3 = gen) ∧
  ∀ (s : State) (p : Port) (tag : Byte), s.takes p →
    (∀ (c : PortConfig) (report : List Byte), c = (s.port p).config →
      report = [c.mask.rdon, c.mask.levl, c.mask.mode, c.mask.clck, c.mask.arch, c.mask.peer, c.mask.thrm,
            c.mask.rset].map (fun on => if on then 1 else 0)
          ++ [if c.policy = .readClears then 0 else 1, if c.line = .level then 0 else 1]
          ++ [EventFlag.rdon, .levl, .mode, .clck, .arch, .peer, .thrm, .rset].flatMap (fun f =>
            let detail := (((s.port p).flags.get f).detail.map Detail.bytes).getD []
            [byte ((s.port p).flags.get f).count, byte detail.length] ++ detail) →
      (c.policy = .explicit → exec (.evrd p tag []) s = .next (s.answer p tag .okay report)) ∧
      (c.policy = .readClears →
        ∃ q, exec (.evrd p tag []) s = .next ((s.setPort p q).answer p tag .okay report) ∧
          (∀ f, (q.flags.get f).count = 0 ∧ (q.flags.get f).detail = ((s.port p).flags.get f).detail) ∧
          q.config = c ∧ q.pulses = (s.port p).pulses ∧ q.pulsesGiven = (s.port p).pulsesGiven ∧
          q.driven = (s.port p).driven ∧ q.atn = false)) ∧
    ∀ l : List Byte, l.length = 2 →
      (∀ f, EventFlag.ofCode (u8At l 0) = some f → ∃ q,
        exec (.evak p tag l) s = .next ((s.setPort p q).answer p tag .okay [byte (q.flags.get f).count]) ∧
        (q.flags.get f).count = ((s.port p).flags.get f).count - min ((s.port p).flags.get f).count (u8At l 1) ∧
        (q.flags.get f).detail = ((s.port p).flags.get f).detail ∧
        (∀ g, g ≠ f → q.flags.get g = (s.port p).flags.get g) ∧
        q.config = (s.port p).config ∧ q.pulses = (s.port p).pulses ∧ q.pulsesGiven = (s.port p).pulsesGiven ∧
        q.driven = (s.port p).driven ∧ q.LineFollows) ∧
      (8 ≤ u8At l 0 → exec (.evak p tag l) s = .next (s.answer p tag .args []))

/-- EVCF replaces the requesting port's configuration whole by the eight marks, the policy and the line mode of its ten bytes
(chapter 11.2.1), answers those bytes, keeps every count and detail, ends pending pulses when the line mode becomes LEVEL,
and the line follows; a field outside its set is refused with ARGS (R168, R165). PEER posts the note, with the sending port,
on the other port (R169). ATN_PULSE gives one pending pulse in PULSE mode, the line resting released after it (R165); the
record of pulses given is the model's own (log entry 17), and that ATN_PULSE is nothing in LEVEL mode or with no pulse
pending is the model's choice (log entry 3). -/
def Obligations.PortsAreConfiguredAndPulsed : Prop :=
  ∀ (s : State) (p : Port),
    (∀ tag : Byte, s.takes p →
      (∀ l : List Byte, l.length = 10 →
        ((∀ i, i < 10 → u8At l i ≤ 1) → ∃ q,
          exec (.evcf p tag l) s = .next ((s.setPort p q).answer p tag .okay l) ∧
          q.config =
            { mask := ⟨u8At l 0 = 1, u8At l 1 = 1, u8At l 2 = 1, u8At l 3 = 1, u8At l 4 = 1, u8At l 5 = 1, u8At l 6 = 1,
                u8At l 7 = 1⟩
              policy := if u8At l 8 = 0 then .readClears else .explicit
              line := if u8At l 9 = 0 then .level else .pulse } ∧
          q.flags = (s.port p).flags ∧ q.pulsesGiven = (s.port p).pulsesGiven ∧ q.driven = (s.port p).driven ∧
          q.pulses = (if u8At l 9 = 0 then 0 else (s.port p).pulses) ∧ q.LineFollows) ∧
        ((1 < u8At l 8 ∨ 1 < u8At l 9 ∨ ∃ i, i < 8 ∧ 1 < u8At l i) →
          exec (.evcf p tag l) s = .next (s.answer p tag .args []))) ∧
      ∀ l : List Byte, l.length ≤ 64 →
        exec (.peer p tag l) s =
          .next ((s.setPort p.other ((s.port p.other).post (.peer p l))).answer p tag .okay [])) ∧
    exec (.atnPulse p) s =
      .next (if (s.port p).config.line = .pulse ∧ 0 < (s.port p).pulses then
          s.setPort p { s.port p with pulses := (s.port p).pulses - 1, pulsesGiven := (s.port p).pulsesGiven + 1 }
        else s)

/-! ### Resets and start-up -/

/-- POWER_RESET and LINE_RESET leave every block as its rule says (R17, R18, R27, R45, R60, R117, R136, R156, R168, R170,
R173), the values the manual does not give being the model's choice (log entry 10), and the waiting commands and the bytes on
their way as they were. Of the flash they leave what R89 and R156 say: everything as it was, but that a program or a store whose completion marker had
been written is complete. -/
def Obligations.PowerAndLineResets : Prop :=
  ∀ (m : Bool) (s : State), ∃ f : Flash,
    (m = false → f = s.flash) ∧
    (m = true → s.archive.activity ≠ .program → s.archive.activity ≠ .store → f = s.flash) ∧
    (m = true → s.archive.activity = .store → f = { s.flash with image := some ⟨s.model.groups, s.model.generation⟩ }) ∧
    (m = true → s.archive.activity = .program → ∀ b r, s.archive.programmingBuffer = some (b, r) →
      f = s.flash.commit s.archive.writePage r) ∧
    ∀ (c : Instr) (cause : ResetCause),
      (c = .powerReset m ∧ cause = .power) ∨ (c = .lineReset m ∧ cause = .line) →
      exec c s = .next
        { now := 0
          gate := { state := .idle, armer := none, k := 10, edgeCount := 0, refCount := 0, start := none, stop := none,
                    stepped := false, limitDue := none, armCount := 0 }
          cal := { result := { state := .empty, port := none, k := none, count := none, raw := none, frames := none,
                               meanX := none, meanY := none, temp := none, marks := none }
                   acc := { n := 0, sumX := 0, sumY := 0, temp := none, marks := ⟨false, false, false⟩ }
                   frames := [], report := none }
          scan := { interval := .eighth, averaging := 2, convX := [], convY := [], convT := [], latest := none,
                    arrivalDue := none, frameCount := 0 }
          level := { state := .unlevel, debounce := 0, tilts := none, satX := false, satY := false, taken := false,
                     frames := [] }
          thermal := { temp := none, saturated := false, baseline := none, bucket := 0, lowCount := 0, window := .inside,
                       frames := [] }
          clock := { seconds := 0, time := .unset, discipline := .internal, preload := none, lastTick := 0,
                     prevPulse := none, good := 0, miss := 0, bad := 0 }
          model := { groups := .defaults, mode := .setup, generation := 0, storeOutstanding := false }
          engine := { queue := [], reading := none, nextTicket := 1, latestReport := none, kept := [],
                      acc := { n := 0, sumX := 0, sumY := 0, leastX := 0, greatestX := 0, leastY := 0, greatestY := 0,
                               thermalFrame := none }
                      frames := [], levelNotices := [], reports := [], thermalReports := [], stepNotices := 0 }
          stations := []
          occupations := { entries := [], counter := 1, archiveQueue := [] }
          archive := { state := .mounting, writePage := 0, failureCount := 0, buffer0 := .free, buffer1 := .free,
                       loadOrder := [], activity := .load, cursorA := 0, cursorB := 0 }
          flash := f
          portA := { received := [], response := none, sent := 0, driven := none, flags := .all ⟨0, none⟩,
                     config := ⟨.all true, .explicit, .level⟩, pulses := 0, atn := false, pulsesGiven := 0 }
          portB := { received := [], response := none, sent := 0, driven := none, flags := .all ⟨0, none⟩,
                     config := ⟨.all true, .explicit, .level⟩, pulses := 0, atn := false, pulsesGiven := 0 }
          startUp := { phase := .load, lastReset := cause, lastStore := .none, restart := none }
          incoming := s.incoming
          pending := s.pending }

/-- RSTR starts the restart timer and the RESTART phase (R172); RESPONSE_SENT ends a response (R162), and with none pending
changes nothing (the model's choice, log entry 3); and when the RSTR response
has gone, or the timer is due at RESTART_TIMER_EXPIRY, the restart is taken: the Sensor Gate, the calibration, the Frame
Scanner, the Level Monitor and the Reading Engine begin afresh, the Thermal Tracker keeps its fields and has no frame of the
scan before still to take, the ports are cleared and RSET is posted, and everything else is kept (R17, R18, R27, R45, R60,
R91, R118, R137, R157, R172, R173; k = 10 and the fate of deliveries on their way are the model's choice, log entries 10 and
11). -/
def Obligations.RestartsKeepTheRest : Prop :=
  (∀ (s : State) (p : Port) (tag : Byte), s.takes p →
    exec (.rstr p tag []) s = .next
      (({ s with startUp := { s.startUp with phase := .restart, restart := some ⟨p, s.now + 5000000⟩ } }).answer
        p tag .okay [])) ∧
  (∀ (s : State) (p : Port),
    ((s.port p).response = none → exec (.responseSent p) s = .next s) ∧
    ((s.port p).response ≠ none → (∀ due, s.startUp.restart ≠ some ⟨p, due⟩) →
      exec (.responseSent p) s = .next (s.setPort p { s.port p with response := none, sent := 0 }))) ∧
  ∀ (c : Instr) (s : State) (p : Port), Restarts c s p →
    exec c s = .next
      (State.postBoth
        { s with
          gate := { state := .idle, armer := none, k := 10, edgeCount := 0, refCount := 0, start := none, stop := none,
                    stepped := false, limitDue := none, armCount := s.gate.armCount }
          cal := { result := { state := .empty, port := none, k := none, count := none, raw := none, frames := none,
                               meanX := none, meanY := none, temp := none, marks := none }
                   acc := { n := 0, sumX := 0, sumY := 0, temp := none, marks := ⟨false, false, false⟩ }
                   frames := [], report := none }
          scan := { interval := s.model.groups.scan.interval, averaging := s.model.groups.scan.averaging, convX := [],
                    convY := [], convT := [], latest := none,
                    arrivalDue := some (s.now + s.model.groups.scan.interval.periods), frameCount := s.scan.frameCount }
          level := { state := .unlevel, debounce := 0, tilts := none, satX := false, satY := false, taken := false,
                     frames := [] }
          thermal := { s.thermal with frames := [] }
          engine := { queue := [], reading := none, nextTicket := s.engine.nextTicket, latestReport := none, kept := [],
                      acc := { n := 0, sumX := 0, sumY := 0, leastX := 0, greatestX := 0, leastY := 0, greatestY := 0,
                               thermalFrame := none }
                      frames := [], levelNotices := [], reports := [], thermalReports := [], stepNotices := 0 }
          portA := { s.portA with received := [], response := none, sent := 0, flags := .all ⟨0, none⟩, pulses := 0
                                  atn := false }
          portB := { s.portB with received := [], response := none, sent := 0, flags := .all ⟨0, none⟩, pulses := 0
                                  atn := false }
          startUp := { s.startUp with phase := .ready, lastReset := .restart p, restart := none } }
        (.rset (.restart p) s.model.mode s.model.generation))

/-- The end of the model load takes the stored image in SURVEY or the defaults in SETUP with generation 0, begins the scan,
posts RSET and begins the mount (R18, R90, R170, R173). The end of the mount sets the write page and the occupation counter
after the newest record, makes the archive READY or FULL, posts ARCH and makes the part ready (R151, R170). In any other
phase the two change nothing (the model's choice, log entry 3). -/
def Obligations.StartUpPhasesEnd : Prop :=
  (∀ s : State, s.startUp.phase = .load →
    ∃ m : CorrectionModel,
      (s.flash.image = none → m = ⟨.defaults, .setup, 0, false⟩) ∧
      (∀ i, s.flash.image = some i → m = ⟨i.groups, .survey, i.generation, false⟩) ∧
      exec .modelLoadEnd s = .next
        (State.postBoth
          { s with
            model := m
            scan := { s.scan with interval := m.groups.scan.interval, averaging := m.groups.scan.averaging, convX := [],
                                  convY := [], convT := [],
                                  arrivalDue := some (s.now + m.groups.scan.interval.periods) }
            startUp := { s.startUp with phase := .mount }
            archive := { s.archive with activity := .mount } }
          (.rset s.startUp.lastReset m.mode m.generation))) ∧
  (∀ s : State, s.startUp.phase ≠ .load → exec .modelLoadEnd s = .next s) ∧
  (∀ s : State, s.startUp.phase = .mount →
    ∃ (page counter : Nat) (st : ArchiveState) (kind : ArchKind),
      (s.flash.newest = none → page = 0 ∧ counter = 1 ∧ st = .ready ∧ kind = .mounted) ∧
      (∀ q n, s.flash.newest = some (q, n) →
        counter = (if n = 4294967295 then 1 else n + 1) ∧
        (q < 4095 → page = q + 1 ∧ st = .ready ∧ kind = .mounted) ∧
        (4095 ≤ q → page = 0 ∧
          (s.model.groups.wrap = true → st = .ready ∧ kind = .mounted) ∧
          (s.model.groups.wrap = false → st = .full ∧ kind = .full))) ∧
      exec .mountEnd s = .next
        (State.postBoth
          { s with
            archive := { s.archive with state := st, writePage := page, activity := .idle }
            occupations := { s.occupations with counter := counter }
            startUp := { s.startUp with phase := .ready } }
          (.arch kind st none none page s.occupations.archiveQueue.length))) ∧
  ∀ s : State, s.startUp.phase ≠ .mount → exec .mountEnd s = .next s

/-! ### The Survey Clock -/

/-- A tick dates itself, and then leaves an UNSET count, advances a SET one by one modulo 2^32, or applies the pending
preload: the count takes its value, CLCK is posted with the step, a COUNTING gate is marked stepped and the engine gets a
step notice (R48, R56). INTERNAL_TICK ticks one second after the last tick date in INTERNAL discipline (R49).
PULSE_WINDOW_EXPIRY gives the substitute tick of that date in PULSE discipline after 10,000,500 periods and counts a miss,
and the third miss returns the clock to INTERNAL (R53). Earlier, or in the other discipline, neither does anything (the
model's choice, log entry 3). -/
def Obligations.TicksAdvanceOrLoad : Prop :=
  (∀ (s : State) (date : Nat), s.clock.time = .unset →
    s.tick date = { s with clock := { s.clock with lastTick := date } }) ∧
  (∀ (s : State) (date : Nat), s.clock.time = .set → s.clock.preload = none →
    s.tick date =
      { s with clock := { s.clock with lastTick := date, seconds := (s.clock.seconds + 1) % 4294967296 } }) ∧
  (∀ (s : State) (date v : Nat), s.clock.time = .set → s.clock.preload = some v →
    s.tick date =
      State.postBoth
        { s with
          clock := { s.clock with lastTick := date, seconds := v, preload := none }
          gate := { s.gate with stepped := s.gate.stepped || decide (s.gate.state = .counting) }
          engine := { s.engine with stepNotices := s.engine.stepNotices + 1 } }
        (.clck .stepped s.clock.discipline none none v (some ((v : Int) - ((s.clock.seconds : Int) + 1))))) ∧
  (∀ s : State, exec .internalTick s = .next
    (if s.clock.discipline = .internal ∧ 10000000 ≤ s.now - s.clock.lastTick then s.tick (s.clock.lastTick + 10000000)
     else s)) ∧
  (∀ s : State, ¬(s.clock.discipline = .pulse ∧ 10000500 ≤ s.now - s.clock.lastTick) →
    exec .pulseWindowExpiry s = .next s) ∧
  ∀ s t : State, s.clock.discipline = .pulse → 10000500 ≤ s.now - s.clock.lastTick →
    t = s.tick (s.clock.lastTick + 10000000) →
    (s.clock.miss + 1 ≠ 3 →
      exec .pulseWindowExpiry s = .next { t with clock := { t.clock with miss := s.clock.miss + 1 } }) ∧
    (s.clock.miss + 1 = 3 →
      exec .pulseWindowExpiry s = .next
        (State.postBoth { t with clock := { t.clock with discipline := .internal, miss := 0, bad := 0 } }
          (.clck .discipline .internal (some .misses) none t.clock.seconds none)))

/-- A SECOND pulse in INTERNAL discipline becomes the previous pulse; it is good when it comes 9,999,500 to 10,000,500
periods after the one before, else the good count becomes 0 (R50). The third good pulse in a row qualifies: the discipline
becomes PULSE and is posted, and the pulse ticks when at least 5,000,000 periods have passed since the last tick date, and
realigns otherwise (R51, R54). -/
def Obligations.PulsesQualify : Prop :=
  ∀ s : State, s.clock.discipline = .internal →
    (¬(∃ d, s.clock.prevPulse = some d ∧ 9999500 ≤ s.now - d ∧ s.now - d ≤ 10000500) →
      exec .secondPulseInternal s = .next { s with clock := { s.clock with prevPulse := some s.now, good := 0 } }) ∧
    ∀ d, s.clock.prevPulse = some d → 9999500 ≤ s.now - d → s.now - d ≤ 10000500 →
      (s.clock.good + 1 ≠ 3 →
        exec .secondPulseInternal s =
          .next { s with clock := { s.clock with prevPulse := some s.now, good := s.clock.good + 1 } }) ∧
      (s.clock.good + 1 = 3 → s.now - s.clock.lastTick < 5000000 →
        exec .secondPulseInternal s = .next
          (State.postBoth
            { s with clock := { s.clock with prevPulse := some s.now, discipline := .pulse, good := 0, lastTick := s.now } }
            (.clck .discipline .pulse (some .qualified) (some false) s.clock.seconds none))) ∧
      (s.clock.good + 1 = 3 → 5000000 ≤ s.now - s.clock.lastTick →
        ∀ u : State, u = { s with clock := { s.clock with prevPulse := some s.now, discipline := .pulse, good := 0 } } →
          exec .secondPulseInternal s = .next
            ((u.postBoth (.clck .discipline .pulse (some .qualified) (some true) (u.tick s.now).clock.seconds none)).tick
              s.now))

/-- A SECOND pulse in PULSE discipline becomes the previous pulse; 9,999,500 to 10,000,500 periods after the last tick date
it is good: it ticks, and the miss and bad counts become 0. Otherwise it is bad: it is no tick, and the third bad pulse
returns the clock to INTERNAL with both counts 0 (R52). -/
def Obligations.PulsesTickOrCountAsBad : Prop :=
  ∀ s : State, s.clock.discipline = .pulse →
    (9999500 ≤ s.now - s.clock.lastTick → s.now - s.clock.lastTick ≤ 10000500 →
      exec .secondPulseDisciplined s = .next
        (State.tick { s with clock := { s.clock with prevPulse := some s.now, miss := 0, bad := 0 } } s.now)) ∧
    (¬(9999500 ≤ s.now - s.clock.lastTick ∧ s.now - s.clock.lastTick ≤ 10000500) →
      (s.clock.bad + 1 ≠ 3 →
        exec .secondPulseDisciplined s =
          .next { s with clock := { s.clock with prevPulse := some s.now, bad := s.clock.bad + 1 } }) ∧
      (s.clock.bad + 1 = 3 →
        exec .secondPulseDisciplined s = .next
          (State.postBoth
            { s with clock := { s.clock with prevPulse := some s.now, discipline := .internal, miss := 0, bad := 0 } }
            (.clck .discipline .internal (some .badPulses) none s.clock.seconds none))))

/-- CKST with the time UNSET loads the count at once, makes the time SET and posts CLCK with kind LOADED; with the time SET
the value becomes the preload, and the answer tells whether it replaced one, and which (R55; its bytes follow R175, log
entry 13). No other request changes the clock. -/
def Obligations.CkstLoadsOrPreloads : Prop :=
  (∀ (s : State) (p : Port) (tag : Byte) (l : List Byte), s.takes p → l.length = 4 →
    (s.clock.time = .unset →
      exec (.ckst p tag l) s = .next
        ((State.postBoth { s with clock := { s.clock with seconds := u32At l 0, time := .set } }
          (.clck .loaded s.clock.discipline none none (u32At l 0) none)).answer p tag .okay [0])) ∧
    (s.clock.time = .set → s.clock.preload = none →
      exec (.ckst p tag l) s = .next
        (({ s with clock := { s.clock with preload := some (u32At l 0) } } : State).answer p tag .okay [1])) ∧
    ∀ old, s.clock.time = .set → s.clock.preload = some old →
      exec (.ckst p tag l) s = .next
        (({ s with clock := { s.clock with preload := some (u32At l 0) } } : State).answer p tag .okay
          ([2] ++ u32 old))) ∧
  ∀ (c : Instr) (s t : State) (p : Port) (tag : Byte) (name : List Byte), c.request = some (p, tag, name) →
    (∀ q g l, c ≠ .ckst q g l) → exec c s = .next t → t.clock = s.clock

/-- Every step keeps the clock's counts in range: seconds and a preload below 2^32, the good, miss and bad counts below 3,
the miss and bad counts 0 in INTERNAL, the good count 0 in PULSE, and a preload only while the time is SET (R48, R50 to
R53, R55). And once the time is SET it stays SET until a POWER or LINE reset (R59, R60). -/
def Obligations.StepKeepsTheClockCounts : Prop :=
  (∀ s t : State, s.clock.CountsInRange → step s = .next t → t.clock.CountsInRange) ∧
  ∀ (c : Instr) (s t : State), s.clock.time = .set → ¬Resets c → exec c s = .next t → t.clock.time = .set

/-! ### The Sensor Gate -/

/-- What FREQ edges do: in IDLE nothing; the first edge in ARMED is the start edge, stamped with the clock as it stands
(R2, R7, R47); in COUNTING an edge adds one to the edge count (R3); and the edge that brings it to 2^k is the completion
edge, which stamps the end, stops the timer, returns the gate to IDLE and hands its armer the count, the raw value
count × 2^(16 − k), both stamps and the stepped mark (R4, R8). The number of edges of SENSOR_EDGE is the model's choice (log
entry 7). -/
def Obligations.EdgesMoveTheGate : Prop :=
  ∀ (s : State) (now : Stamp),
    now = ⟨s.clock.seconds, min ((s.now - s.clock.lastTick) * 65536 / 10000000) 65535, s.clock.time,
      s.clock.discipline⟩ →
    (s.gate.state = .idle → exec .startEdge s = .next s ∧ exec .completionEdge s = .next s ∧
      ∀ n, exec (.sensorEdge n) s = .next s) ∧
    (s.gate.state = .armed →
      exec .startEdge s = .next { s with gate := { s.gate with state := .counting, start := some now } }) ∧
    (∀ n, s.gate.state = .counting → 0 < n → s.gate.edgeCount + n < 2 ^ s.gate.k →
      exec (.sensorEdge n) s = .next { s with gate := { s.gate with edgeCount := s.gate.edgeCount + n } }) ∧
    ∀ first : Stamp, s.gate.state = .counting → s.gate.edgeCount + 1 = 2 ^ s.gate.k → s.gate.start = some first →
      ∀ (g : SensorGate) (report : Completion),
        g = { s.gate with state := .idle, armer := none, edgeCount := 2 ^ s.gate.k, stop := some now,
                          limitDue := none } →
        report = ⟨s.gate.armCount, s.gate.k, s.gate.refCount, s.gate.refCount * 2 ^ (16 - s.gate.k), first, now,
          s.gate.stepped⟩ →
        (s.gate.armer = some .engine → exec .completionEdge s = .next
          { s with gate := g, engine := { s.engine with reports := s.engine.reports ++ [.completion report] } }) ∧
        ∀ p, s.gate.armer = some (.calibration p) → exec .completionEdge s = .next
          { s with gate := g, cal := { s.cal with report := some (.completion report) } }

/-- A run of n FREQ edges, or of n reference periods, is n of them one after another (the operand of the two commands is
the model's choice, log entry 7). -/
def Obligations.EdgeRunsAreSingleEdges : Prop :=
  (∀ (s : State) (n : Nat), (s.gate.state ≠ .idle → s.gate.edgeCount < 2 ^ s.gate.k) →
    exec (.sensorEdge n) s = .next (State.freqEdge^[n] s)) ∧
  ∀ (s t : State) (m n : Nat), exec (.referencePeriodEnd m) s = .next t →
    exec (.referencePeriodEnd n) t = exec (.referencePeriodEnd (m + n)) s

/-- Each reference period adds 1 to the reference count of a COUNTING gate, which never passes 600,000,000 (R3). When the
limit timer is due an ARMED or COUNTING gate times out: both counts are discarded, the armer gets a timeout report with k
and the start stamp, and the gate returns to IDLE (R5). The number of periods of REFERENCE_PERIOD_END and the idle outcome
of a timeout that is not due are the model's choice (log entries 7 and 3). -/
def Obligations.PeriodsAndTimeouts : Prop :=
  (∀ (s : State) (n : Nat),
    (s.gate.state = .counting → exec (.referencePeriodEnd n) s = .next
      { s with now := s.now + n, gate := { s.gate with refCount := min (s.gate.refCount + n) 600000000 } }) ∧
    (s.gate.state ≠ .counting → exec (.referencePeriodEnd n) s = .next { s with now := s.now + n })) ∧
  ∀ s : State,
    (s.gate.state = .idle → exec .gateTimeout s = .next s) ∧
    ∀ due, s.gate.state ≠ .idle → s.gate.limitDue = some due →
      (s.now < due → exec .gateTimeout s = .next s) ∧
      (due ≤ s.now →
        ∀ g : SensorGate,
          g = { s.gate with state := .idle, armer := none, edgeCount := 0, refCount := 0, limitDue := none } →
          (s.gate.armer = some .engine → exec .gateTimeout s = .next
            { s with gate := g, engine := { s.engine with
                reports := s.engine.reports ++ [.timeout s.gate.armCount s.gate.k s.gate.start] } }) ∧
          ∀ p, s.gate.armer = some (.calibration p) → exec .gateTimeout s = .next
            { s with gate := g, cal := { s.cal with report := some (.timeout s.gate.armCount s.gate.k s.gate.start) } })

/-- An arm is taken when the gate is IDLE and refused without effect otherwise (R1); CGAT is refused with MODE in SURVEY and
with BUSY, cause CALIBRATION, while a calibration gate is in flight, and otherwise makes the result PENDING, empties the
accumulator and arms the gate with k clamped to 10..16, answered CLMP when it was clamped (R14). -/
def Obligations.CgatArmsTheGate : Prop :=
  (∀ (s : State) (a : Armer) (k : Nat),
    (s.gate.state ≠ .idle → s.armGate a k = s) ∧
    (s.gate.state = .idle → s.armGate a k =
      { s with gate :=
        { state := .armed, armer := some a, k := k, edgeCount := 0, refCount := 0, start := none, stop := none,
          stepped := false, limitDue := some (s.now + s.model.groups.gate.gateLimit.toNat * 100000),
          armCount := s.gate.armCount + 1 } })) ∧
  ∀ (s : State) (p : Port) (tag : Byte) (l : List Byte), s.takes p → l.length = 1 →
    (s.model.mode = .survey → exec (.cgat p tag l) s = .next (s.answer p tag .mode [])) ∧
    (s.model.mode = .setup → s.cal.result.state = .pending →
      exec (.cgat p tag l) s = .next (s.answer p tag .busy [3])) ∧
    (s.model.mode = .setup → s.cal.result.state ≠ .pending → ∀ (k : Nat) (u : State),
      k = max 10 (min 16 (u8At l 0)) →
      u = { s with cal := { s.cal with
              result := { state := .pending, port := some p, k := some k, count := none, raw := none, frames := none,
                          meanX := none, meanY := none, temp := none, marks := none }
              acc := { n := 0, sumX := 0, sumY := 0, temp := none, marks := ⟨false, false, false⟩ } } } →
      exec (.cgat p tag l) s = .next
        ((u.armGate (.calibration p) k).answer p tag (if k = u8At l 0 then .okay else .clmp) [byte k]))

/-- A frame delivered to a calibration gate joins its accumulator (R12). When the gate's report is taken, the result becomes
COMPLETE with the accumulated means, or the frame in force where no frame came, or no codes where none is in force; or it
becomes TIMEOUT; and RDON is posted on the requesting port alone, ticket 0, DONE or FAILED (R15; that a FAILED one names no
cause is the model's choice, log entry 22). A report waits until every delivered frame is taken, as is read from R11 and R15
(log entry 12). With nothing delivered the two commands change nothing (the model's choice, log entry 3). -/
def Obligations.CalibrationGatesEnd : Prop :=
  (∀ (s : State) (f : Frame) (fs : List Frame), s.cal.frames = f :: fs →
    exec .calibrationAccumulatorFrame s = .next
      { s with cal := { s.cal with
          frames := fs
          acc := { n := s.cal.acc.n + 1, sumX := s.cal.acc.sumX + f.tiltX, sumY := s.cal.acc.sumY + f.tiltY,
                   temp := some f.temp,
                   marks := ⟨s.cal.acc.marks.x || f.satX, s.cal.acc.marks.y || f.satY, s.cal.acc.marks.t || f.satT⟩ } } }) ∧
  (∀ s : State, s.cal.frames = [] → exec .calibrationAccumulatorFrame s = .next s) ∧
  (∀ s : State, s.cal.frames ≠ [] ∨ s.cal.report = none → exec .calibrationGateEnd s = .next s) ∧
  (∀ (s : State) (c : Completion) (p : Port), s.cal.frames = [] → s.cal.report = some (.completion c) →
    s.cal.result.port = some p →
    ∃ (x y t : Option Int) (m : SatMarks),
      (0 < s.cal.acc.n → x = some (roundDiv s.cal.acc.sumX s.cal.acc.n) ∧ y = some (roundDiv s.cal.acc.sumY s.cal.acc.n) ∧
        t = s.cal.acc.temp ∧ m = s.cal.acc.marks) ∧
      (∀ f, s.cal.acc.n = 0 → s.scan.latest = some f →
        x = some f.tiltX ∧ y = some f.tiltY ∧ t = some f.temp ∧ m = ⟨f.satX, f.satY, f.satT⟩) ∧
      (s.cal.acc.n = 0 → s.scan.latest = none → x = none ∧ y = none ∧ t = none ∧ m = ⟨false, false, false⟩) ∧
      exec .calibrationGateEnd s = .next
        (State.post
          { s with cal := { s.cal with
              report := none
              result := { state := .complete, port := some p, k := s.cal.result.k, count := some c.count,
                          raw := some c.raw, frames := some s.cal.acc.n, meanX := x, meanY := y, temp := t,
                          marks := some m } } }
          p (.rdon 0 .done none 0 0 0))) ∧
  ∀ (s : State) (g k : Nat) (first : Option Stamp) (p : Port), s.cal.frames = [] →
    s.cal.report = some (.timeout g k first) → s.cal.result.port = some p →
    exec .calibrationGateEnd s = .next
      (State.post { s with cal := { s.cal with report := none, result := { s.cal.result with state := .timeout } } }
        p (.rdon 0 .failed none 0 0 0))

/-! ### Frames, level and temperature -/

/-- While a scan runs, a conversion joins those of its channel, up to A of them (R10); beyond A, or before a scan begins, it
changes nothing (the model's choice, log entry 3). At the end of a scan interval, with A conversions of each channel, the
frame of their rounded means and saturation marks becomes the frame in force, the next interval follows without gap, and the
frame is delivered to the Level Monitor, the Thermal Tracker and, while a gate is COUNTING, to its armer's accumulator
(R11). -/
def Obligations.FramesAreFormedAndDelivered : Prop :=
  (∀ (s : State) (code : BitVec 24), s.scan.arrivalDue ≠ none →
    exec (.analogConversion .tiltX code) s = .next { s with scan := { s.scan with
      convX := if s.scan.convX.length < s.scan.averaging then s.scan.convX ++ [code.toInt] else s.scan.convX } } ∧
    exec (.analogConversion .tiltY code) s = .next { s with scan := { s.scan with
      convY := if s.scan.convY.length < s.scan.averaging then s.scan.convY ++ [code.toInt] else s.scan.convY } } ∧
    exec (.analogConversion .temperature code) s = .next { s with scan := { s.scan with
      convT := if s.scan.convT.length < s.scan.averaging then s.scan.convT ++ [code.toInt] else s.scan.convT } }) ∧
  (∀ (s : State) (ch : Channel) (code : BitVec 24), s.scan.arrivalDue = none →
    exec (.analogConversion ch code) s = .next s) ∧
  ∀ (s : State) (due : Nat), s.scan.arrivalDue = some due → due ≤ s.now →
    s.scan.convX.length = s.scan.averaging → s.scan.convY.length = s.scan.averaging →
    s.scan.convT.length = s.scan.averaging →
    ∀ (f : Frame) (u : State),
      f = { id := s.scan.frameCount + 1
            tiltX := roundDiv s.scan.convX.sum s.scan.averaging
            tiltY := roundDiv s.scan.convY.sum s.scan.averaging
            temp := roundDiv s.scan.convT.sum s.scan.averaging
            satX := s.scan.convX.any fun c => c = 8388607 || c = -8388608
            satY := s.scan.convY.any fun c => c = 8388607 || c = -8388608
            satT := s.scan.convT.any fun c => c = 8388607 || c = -8388608 } →
      u = { s with
            scan := { s.scan with latest := some f, convX := [], convY := [], convT := [],
                                  frameCount := s.scan.frameCount + 1,
                                  arrivalDue := some (due + s.scan.interval.periods) }
            level := { s.level with frames := s.level.frames ++ [f] }
            thermal := { s.thermal with frames := s.thermal.frames ++ [f] } } →
      (s.gate.state ≠ .counting → exec .frameArrival s = .next u) ∧
      (s.gate.state = .counting → s.gate.armer = some .engine → exec .frameArrival s = .next
        { u with engine := { s.engine with frames := s.engine.frames ++ [⟨s.gate.armCount, f⟩] } }) ∧
      ∀ p, s.gate.state = .counting → s.gate.armer = some (.calibration p) → exec .frameArrival s = .next
        { u with cal := { s.cal with frames := s.cal.frames ++ [f] } }

/-- The Level Monitor takes a frame: it converts and stores the tilts, m and the marks (R19). In UNLEVEL a frame with
neither channel saturated and m at most the entry bound counts towards the debounce D, which makes the state LEVEL, and any
other makes the count 0 (R22). In LEVEL a saturated frame or one above the leave bound makes the state UNLEVEL with count 0
(R23). A change gives the engine a level notice and posts LEVL on both ports (R24). -/
def Obligations.LevelFramesAreJudged : Prop :=
  ∀ (s : State) (f : Frame) (fs : List Frame), s.level.frames = f :: fs →
    ∀ (g : TiltGroup) (x y : Int) (u : LevelMonitor),
      g = s.model.groups.tilt →
      x = clampInt (-1000000) 1000000 (roundDiv ((f.tiltX - g.zeroX) * g.sensX) 65536) →
      y = clampInt (-1000000) 1000000 (roundDiv ((f.tiltY - g.zeroY) * g.sensY) 65536) →
      u = { s.level with frames := fs, tilts := some ⟨x, y, x * x + y * y⟩, satX := f.satX, satY := f.satY,
                         taken := true } →
      (s.level.state = .unlevel →
        (¬(f.satX = false ∧ f.satY = false ∧
            x * x + y * y ≤ (if g.hysteresis < g.threshold then (g.threshold - g.hysteresis) ^ 2 else 0)) →
          exec .levelMonitorFrame s = .next { s with level := { u with debounce := 0 } }) ∧
        (f.satX = false → f.satY = false →
            x * x + y * y ≤ (if g.hysteresis < g.threshold then (g.threshold - g.hysteresis) ^ 2 else 0) →
          (s.level.debounce + 1 ≠ g.debounce →
            exec .levelMonitorFrame s = .next { s with level := { u with debounce := s.level.debounce + 1 } }) ∧
          (s.level.debounce + 1 = g.debounce →
            exec .levelMonitorFrame s = .next
              (State.postBoth
                { s with
                  level := { u with debounce := s.level.debounce + 1, state := .level }
                  engine := { s.engine with levelNotices := s.engine.levelNotices ++ [.level] } }
                (.levl .level .entered (some ⟨x, y, x * x + y * y⟩)))))) ∧
      (s.level.state = .level →
        (f.satX = false → f.satY = false → x * x + y * y ≤ (g.threshold + g.hysteresis) ^ 2 →
          exec .levelMonitorFrame s = .next { s with level := u }) ∧
        ∀ cause, ((f.satX = true ∨ f.satY = true) ∧ cause = LevlCause.saturated) ∨
            (f.satX = false ∧ f.satY = false ∧ (g.threshold + g.hysteresis) ^ 2 < x * x + y * y ∧ cause = .exceeded) →
          exec .levelMonitorFrame s = .next
            (State.postBoth
              { s with
                level := { u with state := .unlevel, debounce := 0 }
                engine := { s.engine with levelNotices := s.engine.levelNotices ++ [.unlevel] } }
              (.levl .unlevel cause (some ⟨x, y, x * x + y * y⟩))))

/-- The Thermal Tracker takes a frame. Saturated, it holds the baseline (R35); with no baseline it begins one (R36); a rise
breaks the low count and, within Nup or with follow-always ON, fills the bucket, which at U steps the baseline by Sb up to
the widest temperature (R37); a fall within Ndown is followed (R38); a larger fall counts, and the L-th makes a low reset
(R39). The window is then judged (R41) and the report handed to the engine (R40), and THRM is posted on both ports when the
window state changed. -/
def Obligations.ThermalFramesAreTracked : Prop :=
  ∀ (s : State) (f : Frame) (fs : List Frame), s.thermal.frames = f :: fs →
    ∀ (g : ThrmGroup) (temp : Int), g = s.model.groups.thrm →
      temp = clampInt (-1000000) 1000000 (roundDiv (f.temp * g.sens) 65536 + g.offset) →
      ∃ (b : Option Int) (bucket : Int) (low : Nat) (reset : Bool) (w : WindowState) (u : State),
        (f.satT = true → b = s.thermal.baseline ∧ bucket = s.thermal.bucket ∧ low = s.thermal.lowCount ∧ reset = false) ∧
        (f.satT = false → s.thermal.baseline = none → b = some temp ∧ bucket = 0 ∧ low = 0 ∧ reset = false) ∧
        (∀ old, f.satT = false → s.thermal.baseline = some old →
          (old < temp → low = 0 ∧ reset = false ∧
            (temp - old ≤ g.nUp ∨ g.followAlways = true →
              (g.bucketLimit ≤ s.thermal.bucket + (temp - old) → b = some (min (old + g.step) 1000000) ∧ bucket = 0) ∧
              (s.thermal.bucket + (temp - old) < g.bucketLimit →
                b = some old ∧ bucket = s.thermal.bucket + (temp - old))) ∧
            (¬(temp - old ≤ g.nUp ∨ g.followAlways = true) → b = some old ∧ bucket = s.thermal.bucket)) ∧
          (temp = old → b = some old ∧ bucket = s.thermal.bucket ∧ low = 0 ∧ reset = false) ∧
          (temp < old → old - temp ≤ g.nDown → b = some temp ∧ bucket = 0 ∧ low = 0 ∧ reset = false) ∧
          (temp < old → (g.nDown : Int) < old - temp →
            (s.thermal.lowCount + 1 = g.lowFrames → b = some temp ∧ bucket = 0 ∧ low = 0 ∧ reset = true) ∧
            (s.thermal.lowCount + 1 ≠ g.lowFrames →
              b = some old ∧ bucket = s.thermal.bucket ∧ low = s.thermal.lowCount + 1 ∧ reset = false))) ∧
        (w = .inside ↔ f.satT = false ∧ ((temp - g.setPoint).natAbs : Int) ≤ g.window) ∧
        u = { s with
              thermal := { temp := some temp, saturated := f.satT, baseline := b, bucket := bucket, lowCount := low,
                           window := w, frames := fs }
              engine := { s.engine with
                thermalReports := s.engine.thermalReports ++ [⟨f.id, temp, f.satT, b, w, reset⟩] } } ∧
        exec .thermalTrackerFrame s = .next
          (if w = s.thermal.window then u
           else u.postBoth (.thrm w (if f.satT = true then .saturated else .range) (some temp) b))

/-- Every step keeps the meaning of LEVEL: the frame last taken has unsaturated tilt channels and lies at or below the leave
bound of the TILT group in force (R23). -/
def Obligations.StepKeepsLevelMeaning : Prop :=
  ∀ s t : State, s.LevelMeansLevel → step s = .next t → t.LevelMeansLevel

/-- The tilt correction of kept tilts is g0 × (tx² + ty²) / 200,000,000,000 to the nearest integer with a half rounded up,
and lies in 0..9,840,000 (R29). -/
def Obligations.TiltCorrectionIsNearest : Prop :=
  ∀ g0 tx ty : Int, Within 976000 984000 g0 → Within (-1000000) 1000000 tx → Within (-1000000) 1000000 ty →
    200000000000 * (2 * tiltCorrection g0 tx ty - 1) ≤ 2 * (g0 * (tx ^ 2 + ty ^ 2)) ∧
    2 * (g0 * (tx ^ 2 + ty ^ 2)) < 200000000000 * (2 * tiltCorrection g0 tx ty + 1) ∧
    0 ≤ tiltCorrection g0 tx ty ∧ tiltCorrection g0 tx ty ≤ 9840000

/-! ### The tide -/

/-- The device cosine changes sign by half a turn and is the same at the mirrored phase; a quarter of a turn gives 0 and an
eighth 759,250,125 (R67). -/
def Obligations.CosineFoldsAndMirrors : Prop :=
  (∀ θ, θ < 2147483648 → deviceCosine (θ + 2147483648) = -deviceCosine θ) ∧
  (∀ θ, 0 < θ → θ < 4294967296 → deviceCosine (4294967296 - θ) = deviceCosine θ) ∧
  deviceCosine 0 = 1073741824 ∧ deviceCosine 1073741824 = 0 ∧ deviceCosine 536870912 = 759250125

/-- The device cosine is 2^30 cos(2πθ / 2^32) to within one half and 2^-30, so it is the nearest integer at every phase that
does not stand closer than 2^-30 to a half (R67; log entry 6 tells why no phase does). -/
def Obligations.CosineIsNearest : Prop :=
  ∀ θ : Nat, θ < 4294967296 →
    |(deviceCosine θ : ℝ) - 2 ^ 30 * Real.cos (2 * Real.pi * θ / 2 ^ 32)| ≤ 1 / 2 + 1 / 2 ^ 30

/-- A tide computation has one term for each enabled slot, in ascending slot index (R63); each phase is the remainder modulo
2^32 of φ + floor(ω Δt / 256) + k Δλ with Δt = t − E (R64, R66), each term is A × C(θ) / 2^30 rounded (R68), and the sum, the
tidal gravity and the clamped correction follow (R68, R69). -/
def Obligations.TideTermsAreTheEnabledSlots : Prop :=
  ∀ (g : Groups) (t : Nat) (longitude : Int) (factor : Option Nat) (v : TideValues),
    v = synthesize g t longitude factor →
    v.dt = (t : Int) - g.tidr.epoch ∧
    v.dl = roundDiv ((longitude - g.tidr.longitude) * 4294967296) 360000000 ∧
    v.terms.map (·.slot) = (List.range 16).filter (fun j => (g.tide.toList.getD j TideSlot.defaults).enabled) ∧
    (∀ x ∈ v.terms, ∃ c, g.tide.toList[x.slot]? = some c ∧ c.enabled = true ∧ x.species = c.species ∧
      x.phase < 4294967296 ∧
      (x.phase : Int) ≡ c.phase + Int.fdiv (c.speed * v.dt) 256 + c.species * v.dl [ZMOD 4294967296] ∧
      x.cosine = deviceCosine x.phase ∧ x.term = roundDiv (c.amplitude * x.cosine) 1073741824) ∧
    v.sum = (v.terms.map (·.term)).sum ∧ v.tide = roundDiv (v.sum * (factor.getD 16384 : Nat)) 16384 ∧
    v.correction = max (-50000000) (min 50000000 (-v.tide))

/-! ### Reading requests -/

/-- CGRD, LIVE, CKRD, RDQU and ARST are answered OKAY with what their blocks hold when they are taken, and change nothing
else (R16, R30, R58, R116, R154); IDEN is so answered in every phase (R171). The layout of the payloads follows R175 (log
entry 13, and 22 for the calibration marks' presence byte, the byte of a yes-or-no field and RDQU's set-or-clear flags); the
frame count byte of CGRD above 255 frames is a free value (log entry 2); and that LIVE leaves out the stored tilts and the codes while no frame has
been taken since the last reset is read from R30 (log entry 19). -/
def Obligations.StatusRequestsReport : Prop :=
  ∀ (s : State) (p : Port) (tag : Byte),
    (s.takes p →
      exec (.cgrd p tag []) s = .next (s.answer p tag .okay
        (u8 s.cal.result.state.code ++ opt (fun q => u8 (Port.code q)) 1 s.cal.result.port ++ opt u8 1 s.cal.result.k
          ++ opt u64 8 s.cal.result.count ++ opt u64 8 s.cal.result.raw ++ opt frameCountByte 1 s.cal.result.frames
          ++ opt s32 4 s.cal.result.meanX ++ opt s32 4 s.cal.result.meanY ++ opt s32 4 s.cal.result.temp
          ++ opt (fun m => mark m.x ++ mark m.y ++ mark m.t) 3 s.cal.result.marks)) ∧
      (s.level.taken = true → ∀ t f, s.level.tilts = some t → s.scan.latest = some f →
        exec (.live p tag []) s = .next (s.answer p tag .okay
          ([1] ++ ([1] ++ s32 t.x) ++ ([1] ++ s32 t.y) ++ ([1] ++ s32 f.tiltX) ++ ([1] ++ s32 f.tiltY)
            ++ u8 s.level.state.code ++ u8 s.level.debounce ++ u8 s.model.groups.tilt.debounce ++ mark s.level.satX
            ++ mark s.level.satY ++ opt s32 4 s.thermal.temp ++ opt s32 4 s.thermal.baseline ++ u8 s.thermal.window.code
            ++ mark s.thermal.saturated))) ∧
      (s.level.taken = false →
        exec (.live p tag []) s = .next (s.answer p tag .okay
          (List.replicate 21 0 ++ u8 s.level.state.code ++ u8 s.level.debounce ++ u8 s.model.groups.tilt.debounce
            ++ mark s.level.satX ++ mark s.level.satY ++ opt s32 4 s.thermal.temp ++ opt s32 4 s.thermal.baseline
            ++ u8 s.thermal.window.code ++ mark s.thermal.saturated))) ∧
      exec (.ckrd p tag []) s = .next (s.answer p tag .okay
        (u32 s.clock.seconds ++ u16 (min ((s.now - s.clock.lastTick) * 65536 / 10000000) 65535) ++ u8 s.clock.time.code
          ++ u8 s.clock.discipline.code ++ opt u32 4 s.clock.preload ++ u8 s.clock.good ++ u8 s.clock.miss
          ++ u8 s.clock.bad ++ mark s.clock.prevPulse.isSome)) ∧
      exec (.rdqu p tag []) s = .next (s.answer p tag .okay
        (opt Reading.bytes 28 s.engine.reading ++ u8 s.engine.queue.length ++ s.engine.queue.flatMap QueueEntry.bytes
          ++ u16 s.engine.nextTicket)) ∧
      exec (.arst p tag []) s = .next (s.answer p tag .okay
        (u8 s.archive.state.code ++ u16 s.archive.writePage ++ u8 s.archive.failureCount ++ mark s.model.groups.wrap
          ++ u8 s.archive.buffer0.code ++ opt u32 4 s.archive.buffer0.occupation
          ++ u8 s.archive.buffer1.code ++ opt u32 4 s.archive.buffer1.occupation
          ++ opt (fun b => u8 (BufferId.code b)) 1 s.archive.earlier ++ u8 s.archive.activity.code
          ++ mark (s.model.storeOutstanding && decide (s.archive.activity ≠ .store))
          ++ u8 s.occupations.archiveQueue.length ++ u16 (s.archive.cursor p)))) ∧
    ((s.port p).response = none →
      ∀ (md gen : List Byte),
        (s.startUp.phase = .load → md = [0, 0] ∧ gen = [0, 0, 0]) →
        (s.startUp.phase ≠ .load → md = [1, byte s.model.mode.code] ∧ gen = 1 :: u16 s.model.generation) →
        exec (.iden p tag []) s = .next (s.answer p tag .okay
          ([71, 67, 45, 50, 52, 1, byte (Port.code p), byte s.startUp.lastReset.code]
            ++ opt (fun q => u8 (Port.code q)) 1 s.startUp.lastReset.port ++ [byte s.startUp.phase.code] ++ md ++ gen
            ++ mark s.model.storeOutstanding ++ u8 s.startUp.lastStore.code
            ++ opt u16 2 s.startUp.lastStore.generation)))

/-- MDRD returns a group's stored record with the mode and the generation (R78). TDCP answers the tide of a station of the
table at the time asked (R71). STRD and OCRD read the entry with the number given, or with the smallest number above it
(R123, R133). OCRD answers the header of chapter 11.4, with the place of a CLOSED occupation in the archive queue and the
number of pending readings, and at most four results from the index on, 64 bytes each (R133). A name, index, number or
selection out of range is refused with ARGS, an absent entry with NONE; none of the four changes anything but the answer. The
layout of the answers follows R175 (log entry 13). -/
def Obligations.TablesAreRead : Prop :=
  ∀ (s : State) (p : Port) (tag : Byte), s.takes p →
    (∀ id : GroupId, exec (.mdrd p tag (id.name ++ u8 id.index)) s = .next (s.answer p tag .okay
      (id.name ++ u8 id.index ++ u8 s.model.mode.code ++ u16 s.model.generation ++ s.model.groups.record id))) ∧
    (∀ l : List Byte, l.length = 5 → (∀ id : GroupId, l ≠ id.name ++ u8 id.index) →
      exec (.mdrd p tag l) s = .next (s.answer p tag .args [])) ∧
    (∀ l : List Byte, l.length = 6 →
      (¬(1 ≤ u16At l 0 ∧ u16At l 0 ≤ 65534) → exec (.tdcp p tag l) s = .next (s.answer p tag .args [])) ∧
      (1 ≤ u16At l 0 → u16At l 0 ≤ 65534 → s.station (u16At l 0) = none →
        exec (.tdcp p tag l) s = .next (s.answer p tag .none [])) ∧
      ∀ e v, 1 ≤ u16At l 0 → u16At l 0 ≤ 65534 → s.station (u16At l 0) = some e →
        v = synthesize s.model.groups (u32At l 2) e.longitude e.factor →
        exec (.tdcp p tag l) s = .next (s.answer p tag .okay
          (u16 (u16At l 0) ++ u32 (u32At l 2) ++ s64 v.dt ++ s64 v.dl ++ mark e.factor.isSome
            ++ u16 (e.factor.getD 16384) ++ v.terms.flatMap TideTerm.bytes ++ s32 v.sum ++ s32 v.tide
            ++ s32 v.correction))) ∧
    (∀ l : List Byte, l.length = 3 → ∀ n, n = u16At l 1 →
      (u8At l 0 = 0 → ¬(1 ≤ n ∧ n ≤ 65534) → exec (.strd p tag l) s = .next (s.answer p tag .args [])) ∧
      (u8At l 0 = 0 → 1 ≤ n → n ≤ 65534 → s.station n = none →
        exec (.strd p tag l) s = .next (s.answer p tag .none [])) ∧
      (u8At l 0 = 1 → 65534 < n → exec (.strd p tag l) s = .next (s.answer p tag .args [])) ∧
      (u8At l 0 = 1 → n ≤ 65534 → (∀ e ∈ s.stations, e.number ≤ n) →
        exec (.strd p tag l) s = .next (s.answer p tag .none [])) ∧
      (1 < u8At l 0 → exec (.strd p tag l) s = .next (s.answer p tag .args [])) ∧
      ∀ e, (u8At l 0 = 0 ∧ 1 ≤ n ∧ n ≤ 65534 ∧ s.station n = some e) ∨
          (u8At l 0 = 1 ∧ n ≤ 65534 ∧ (s.stations.map (·.number)).Nodup ∧ e ∈ s.stations ∧ n < e.number ∧
            ∀ x ∈ s.stations, n < x.number → e.number ≤ x.number) →
        exec (.strd p tag l) s = .next (s.answer p tag .okay
          (e.bytes ++ u8 (s.occupations.entries.countP fun o => decide (o.station = e.number))
            ++ u8 s.stations.length))) ∧
    ∀ l : List Byte, l.length = 6 → ∀ n, n = u32At l 1 →
      (u8At l 0 = 0 → s.occupation n = none → exec (.ocrd p tag l) s = .next (s.answer p tag .none [])) ∧
      (u8At l 0 = 1 → (∀ o ∈ s.occupations.entries, o.number ≤ n) →
        exec (.ocrd p tag l) s = .next (s.answer p tag .none [])) ∧
      (1 < u8At l 0 → exec (.ocrd p tag l) s = .next (s.answer p tag .args [])) ∧
      ∀ o, (u8At l 0 = 0 ∧ s.occupation n = some o) ∨
          (u8At l 0 = 1 ∧ (s.occupations.entries.map (·.number)).Nodup ∧ o ∈ s.occupations.entries ∧ n < o.number ∧
            ∀ x ∈ s.occupations.entries, n < x.number → o.number ≤ x.number) →
        ∀ (place : Option Nat) (shown : List ReadingResult) (header : List Byte),
          (o.state ≠ .closed ∨ o.number ∉ s.occupations.archiveQueue → place = none) →
          (∀ before after : List Nat, o.state = .closed → s.occupations.archiveQueue = before ++ o.number :: after →
            o.number ∉ before → place = some (before.length + 1)) →
          shown = (o.results.drop (u8At l 5)).take 4 →
          header = u32 o.number ++ u16 o.station
              ++ [byte (match o.state with | .isOpen => 0 | .closed => 1 | .staged => 2),
                  byte ((if o.openTime = none then 0 else 1) + (if o.closeTime = none then 0 else 2)
                    + (if place = none then 0 else 4))]
              ++ u32 (o.openTime.getD 0) ++ u32 (o.closeTime.getD 0)
              ++ [byte o.results.length, byte (s.engine.pendingAt o.number), byte (place.getD 0), byte (u8At l 5),
                  byte shown.length] →
          header.length = 21 ∧ (∀ x ∈ shown, x.bytes.length = 64) ∧
          exec (.ocrd p tag l) s =
            .next (s.answer p tag .okay (header ++ shown.flatMap ReadingResult.bytes))

/-! ### The Correction Model -/

/-- MDWR is refused with MODE in SURVEY; in SETUP a name, index or record length that is no group's, or an enumerated field
outside its set, is refused with ARGS; otherwise the record is stored, clamped where it must be, and answered with the
stored record, CLMP when it differs from the one sent and OKAY when it does not (R76). A write of TILT, THRM or SCAN makes its
block begin afresh, and no other write does more (chapter 6.3). -/
def Obligations.GroupWritesStoreOneRecord : Prop :=
  ∀ (s : State) (p : Port) (tag : Byte) (l : List Byte), s.takes p → l.length ∈ [22, 34, 43, 19, 13, 33, 7, 10, 6] →
    (s.model.mode = .survey → exec (.mdwr p tag l) s = .next (s.answer p tag .mode [])) ∧
    (s.model.mode = .setup →
      ((∀ (id : GroupId) (record : List Byte), l = id.name ++ u8 id.index ++ record →
          record.length ≠ id.recordLength) →
        exec (.mdwr p tag l) s = .next (s.answer p tag .args [])) ∧
      ∀ (id : GroupId) (record : List Byte), l = id.name ++ u8 id.index ++ record → record.length = id.recordLength →
        (s.model.groups.write id record = none → exec (.mdwr p tag l) s = .next (s.answer p tag .args [])) ∧
        ∀ (g : Groups) (t u : State), s.model.groups.write id record = some g →
          t = { s with model := { s.model with groups := g } } →
          (id = .tilt → u = t.reinitLevel) → (id = .thrm → u = t.reinitThermal) → (id = .scan → u = t.startScan) →
          (id ≠ .tilt → id ≠ .thrm → id ≠ .scan → u = t) →
          exec (.mdwr p tag l) s = .next
            (u.answer p tag (if g.record id = record then .okay else .clmp)
              (id.name ++ u8 id.index ++ [0] ++ u16 s.model.generation ++ g.record id)))

/-- What a record stores: every numeric field of TILT, THRM, TIDE, TIDR, GATE and WIND that has a range goes to the nearer
end of it, and CALI, SCAN and ARCV are stored as received (R9, R20, R33, R61, R62, R73, R77, R85, R86); a record is refused
exactly when a mark is neither OFF nor ON, a species lies above 3, or a scan field is none of its four (R76, R178). -/
def Obligations.RecordsAreClamped : Prop :=
  (∀ (g w : Groups) (l : List Byte),
    (∀ i, g.write (.cali i) l = some w →
      w = { g with cali := g.cali.set i (CaliSlot.mk (u8At l 0 = 1) (u32At l 1) (u32At l 5) (s32At l 9) (s32At l 13)) }) ∧
    (g.write .tilt l = some w → w = { g with tilt :=
      { zeroX := s32At l 0, zeroY := s32At l 4, sensX := s32At l 8, sensY := s32At l 12
        threshold := max 1 (min 1000000 (s32At l 16)), hysteresis := max 0 (min 1000000 (s32At l 20))
        debounce := max 1 (min 255 (u8At l 24)), motionLimit := max 0 (min 2000000 (s32At l 25)) } }) ∧
    (g.write .thrm l = some w → w = { g with thrm :=
      { sens := s32At l 0, offset := max (-1000000) (min 1000000 (s32At l 4))
        setPoint := max (-1000000) (min 1000000 (s32At l 8)), window := max 0 (min 2000000 (s32At l 12))
        kT := s32At l 16, kG := s32At l 20, nUp := u16At l 24, nDown := u16At l 26
        bucketLimit := max 1 (min 1000000 (s32At l 28)), step := max 1 (min 10000 (s32At l 32))
        lowFrames := max 1 (min 255 (u8At l 36)), followAlways := u8At l 37 = 1 } }) ∧
    (∀ j, g.write (.tide j) l = some w →
      w = { g with
        tide := g.tide.set j
          (TideSlot.mk (u8At l 0 = 1) (u8At l 1) (min 268435455 (u32At l 2)) (u32At l 6)
            (max 0 (min 1000000 (s32At l 10)))) }) ∧
    (g.write .tidr l = some w →
      w = { g with tidr := ⟨max (-180000000) (min 180000000 (s32At l 0)), u32At l 4⟩ }) ∧
    (g.write .gate l = some w → w = { g with gate :=
      { rawLow := u32At l 0, rawHigh := u32At l 4, gateLimit := max 1 (min 6000 (s32At l 8))
        settle := max 0 (min 600 (s32At l 12)), levelWait := max 1 (min 600 (s32At l 16))
        outlierLimit := max 0 (min 50000000 (s32At l 20)), g0 := max 976000 (min 984000 (s32At l 24)) } }) ∧
    (g.write .scan l = some w → ∃ i, ScanInterval.code i = u8At l 0 ∧ w = { g with scan := ⟨i, u8At l 1⟩ }) ∧
    (∀ x : Window, x = ⟨max 1 (min 65534 (u16At l 0)), max 1 (min 65534 (u16At l 2)), u8At l 4 = 1⟩ →
      (g.write (.wind .a) l = some w → w = { g with windA := x }) ∧
      (g.write (.wind .b) l = some w → w = { g with windB := x })) ∧
    (g.write .arcv l = some w → w = { g with wrap := u8At l 0 = 1 })) ∧
  ∀ (g : Groups) (id : GroupId) (l : List Byte), g.write id l = none ↔
    ((∃ i, id = .cali i) ∧ 1 < u8At l 0) ∨ (id = .thrm ∧ 1 < u8At l 37) ∨
    ((∃ j, id = .tide j) ∧ (1 < u8At l 0 ∨ 3 < u8At l 1)) ∨
    (id = .scan ∧ (3 < u8At l 0 ∨ u8At l 1 ∉ [1, 2, 4, 8])) ∨ ((∃ q, id = .wind q) ∧ 1 < u8At l 4) ∨
    (id = .arcv ∧ 1 < u8At l 0)

/-- Decode and encode agree for the groups' records: the record of any group of a model in range, written into any model, is
stored as it is, and every other group stays; and a model in range stays in range under every write (chapter 11.6, R76). -/
def Obligations.GroupRecordsRoundTrip : Prop :=
  (∀ (g h : Groups) (id : GroupId), h.InRange →
    (h.record id).length = id.recordLength ∧
    ∃ w, g.write id (h.record id) = some w ∧ w.record id = h.record id ∧ ∀ j, j ≠ id → w.record j = g.record j) ∧
  ∀ (g w : Groups) (id : GroupId) (l : List Byte), g.InRange → g.write id l = some w →
    w.InRange ∧ ∀ j, j ≠ id → w.record j = g.record j

/-- The blocks that begin afresh: the Level Monitor becomes UNLEVEL with debounce 0, converts the frame in force, and reports
the change when it was LEVEL (R25; frames waiting for it stay, log entry 23); the Thermal Tracker's baseline is cleared, the frame in force converted and judged, and
THRM posted when the window state changed (R42); a scan discards its conversions and begins now with the SCAN group as
stored (R13). -/
def Obligations.BlocksBeginAfresh : Prop :=
  (∀ (s : State) (l : LevelMonitor),
    (s.scan.latest = none → l = { s.level with state := .unlevel, debounce := 0 }) →
    (∀ (f : Frame) (g : TiltGroup) (x y : Int), s.scan.latest = some f → g = s.model.groups.tilt →
      x = clampInt (-1000000) 1000000 (roundDiv ((f.tiltX - g.zeroX) * g.sensX) 65536) →
      y = clampInt (-1000000) 1000000 (roundDiv ((f.tiltY - g.zeroY) * g.sensY) 65536) →
      l = { s.level with state := .unlevel, debounce := 0, tilts := some ⟨x, y, x * x + y * y⟩, satX := f.satX,
                         satY := f.satY }) →
    (s.level.state = .unlevel → s.reinitLevel = { s with level := l }) ∧
    (s.level.state = .level → s.reinitLevel = State.postBoth
      { s with level := l, engine := { s.engine with levelNotices := s.engine.levelNotices ++ [.unlevel] } }
      (.levl .unlevel .reinit l.tilts))) ∧
  (∀ (s : State) (t : ThermalTracker),
    (s.scan.latest = none → t = { s.thermal with baseline := none, bucket := 0, lowCount := 0, temp := none,
                                                 saturated := false, window := .inside }) →
    (∀ (f : Frame) (g : ThrmGroup) (temp : Int), s.scan.latest = some f → g = s.model.groups.thrm →
      temp = clampInt (-1000000) 1000000 (roundDiv (f.temp * g.sens) 65536 + g.offset) →
      t = { s.thermal with
            baseline := none, bucket := 0, lowCount := 0, temp := some temp, saturated := f.satT
            window := if f.satT = false ∧ ((temp - g.setPoint).natAbs : Int) ≤ g.window then .inside else .outside }) →
    s.reinitThermal =
      if t.window = s.thermal.window then { s with thermal := t }
      else State.postBoth { s with thermal := t } (.thrm t.window .reinit t.temp none)) ∧
  ∀ s : State, s.startScan =
    { s with scan := { s.scan with
        interval := s.model.groups.scan.interval, averaging := s.model.groups.scan.averaging, convX := [], convY := []
        convT := [], arrivalDue := some (s.now + s.model.groups.scan.interval.periods) } }

/-- SETU is answered SAME in SETUP and BUSY while a reading is queued or in flight or a store is outstanding, and otherwise
makes the mode SETUP and posts MODE (R79). SURV is answered SAME in SURVEY, BUSY while a calibration gate is in flight, and
BADM with the first check that fails (R81); otherwise the generation advances, the Level Monitor and the baseline begin
afresh, a FULL archive is released at page 0 when the wrap option is ON, the mode becomes SURVEY and MODE is posted (R82,
R84, R148). MDST is refused with MODE in SETUP and with BUSY while a store is outstanding, and otherwise marks a store
outstanding and answers the generation (R87). The layout of the BADM answer follows R175 (log entries 13 and 22). -/
def Obligations.ModesChange : Prop :=
  ∀ (s : State) (p : Port) (tag : Byte), s.takes p →
    (s.model.mode = .setup →
      exec (.setu p tag []) s = .next (s.answer p tag .same []) ∧
      exec (.mdst p tag []) s = .next (s.answer p tag .mode [])) ∧
    (s.model.mode = .survey →
      (s.engine.queue ≠ [] ∨ s.engine.reading ≠ none → exec (.setu p tag []) s = .next (s.answer p tag .busy [1])) ∧
      (s.engine.queue = [] → s.engine.reading = none → s.model.storeOutstanding = true →
        exec (.setu p tag []) s = .next (s.answer p tag .busy [2])) ∧
      (s.engine.queue = [] → s.engine.reading = none → s.model.storeOutstanding = false →
        exec (.setu p tag []) s = .next
          ((State.postBoth { s with model := { s.model with mode := .setup } }
            (.mode .setupEntered .setup s.model.generation)).answer p tag .okay [])) ∧
      exec (.surv p tag []) s = .next (s.answer p tag .same []) ∧
      (s.model.storeOutstanding = true → exec (.mdst p tag []) s = .next (s.answer p tag .busy [2])) ∧
      (s.model.storeOutstanding = false →
        exec (.mdst p tag []) s = .next
          (({ s with model := { s.model with storeOutstanding := true } } : State).answer p tag .okay
            (u16 s.model.generation)))) ∧
    (s.model.mode = .setup → s.cal.result.state = .pending →
      exec (.surv p tag []) s = .next (s.answer p tag .busy [3])) ∧
    (s.model.mode = .setup → s.cal.result.state ≠ .pending → ∀ g : Groups, g = s.model.groups →
      ((∀ c ∈ g.cali.toList, c.enabled = false) →
        exec (.surv p tag []) s = .next (s.answer p tag .badm ([1] ++ (GroupId.cali 0).name ++ [0, 0]))) ∧
      (∀ (i : Nat) (c : CaliSlot), g.cali.toList[i]? = some c → c.enabled = true → c.stop < c.start →
        (∀ (j : Nat) (d : CaliSlot), j < i → g.cali.toList[j]? = some d → d.enabled = true → d.start ≤ d.stop) →
        exec (.surv p tag []) s = .next (s.answer p tag .badm ([2] ++ (GroupId.cali 0).name ++ [1, byte i]))) ∧
      ((∃ c ∈ g.cali.toList, c.enabled = true) → (∀ c ∈ g.cali.toList, c.enabled = true → c.start ≤ c.stop) →
        (g.gate.rawHigh ≤ g.gate.rawLow →
          exec (.surv p tag []) s = .next (s.answer p tag .badm ([3] ++ GroupId.gate.name ++ [0, 0]))) ∧
        (g.gate.rawLow < g.gate.rawHigh → g.tilt.threshold ≤ g.tilt.hysteresis →
          exec (.surv p tag []) s = .next (s.answer p tag .badm ([4] ++ GroupId.tilt.name ++ [0, 0]))) ∧
        (g.gate.rawLow < g.gate.rawHigh → g.tilt.hysteresis < g.tilt.threshold →
          ∀ (gen : Nat) (u v w : State), gen = (s.model.generation + 1) % 65536 →
            u = State.reinitLevel { s with model := { s.model with generation := gen } } →
            v = { u with thermal := { u.thermal with baseline := none, bucket := 0, lowCount := 0 } } →
            (¬(s.archive.state = .full ∧ g.wrap = true) → w = v) →
            (s.archive.state = .full → g.wrap = true →
              w = State.postBoth { v with archive := { s.archive with state := .ready, writePage := 0 } }
                (.arch .released .ready none none 0 s.occupations.archiveQueue.length)) →
            exec (.surv p tag []) s = .next
              ((State.postBoth { w with model := { w.model with mode := .survey } }
                (.mode .surveyEntered .survey gen)).answer p tag .okay (u16 gen)))))

/-- The lookup takes the lowest-indexed enabled slot that contains the raw value, evaluated there; where none does, the
enabled slot at the least distance, the lowest index among equals, at its boundary, off-scale (R74); the slots being such as
validation lets pass (R81). The value is the slot's base plus the rounded slope, clamped to ±2,000,000,000, and the offscale
mark tells an off-scale or clamped value (R75). -/
def Obligations.LookupSelects : Prop :=
  ∀ (slots : List CaliSlot) (r : Nat), (∀ c ∈ slots, c.enabled = true → c.start ≤ c.stop) →
    (∀ (i : Nat) (c : CaliSlot), slots[i]? = some c → c.enabled = true → c.start ≤ r → r ≤ c.stop →
      (∀ (j : Nat) (d : CaliSlot), j < i → slots[j]? = some d → d.enabled = true → ¬(d.start ≤ r ∧ r ≤ d.stop)) →
      selectSlot slots r = some (c, r, false)) ∧
    (∀ (i : Nat) (c : CaliSlot), slots[i]? = some c → c.enabled = true →
      (∀ (j : Nat) (d : CaliSlot), slots[j]? = some d → d.enabled = true → ¬(d.start ≤ r ∧ r ≤ d.stop) ∧
        (c.start - r) + (r - c.stop) ≤ (d.start - r) + (r - d.stop) ∧
        (j < i → (c.start - r) + (r - c.stop) < (d.start - r) + (r - d.stop))) →
      selectSlot slots r = some (c, if r < c.start then c.start else c.stop, true)) ∧
    ((∃ c ∈ slots, c.enabled = true) → ∃ (c : CaliSlot) (x : Nat) (off : Bool),
      c ∈ slots ∧ c.enabled = true ∧ c.start ≤ x ∧ x ≤ c.stop ∧ selectSlot slots r = some (c, x, off) ∧
      ∀ v, v = c.base + roundDiv (((x : Int) - c.start) * c.factor) 65536 →
        lookup slots r = some (max (-2000000000) (min 2000000000 v),
          off || decide (v < -2000000000 ∨ 2000000000 < v)))

/-- Every step keeps every group of the model and of the stored image within the ranges of its rule (R9, R20, R33, R61, R62,
R73, R77, R85); and in SURVEY no command changes a group but a reset and the load that follows it (R76). -/
def Obligations.ModelStaysInRange : Prop :=
  (∀ s t : State, s.ModelInRange → step s = .next t → t.ModelInRange) ∧
  ∀ (c : Instr) (s t : State), s.model.mode = .survey → ¬Resets c → c ≠ .modelLoadEnd → exec c s = .next t →
    t.model.groups = s.model.groups

/-! ### The Reading Engine -/

/-- RDRQ is answered by the first case that applies: MODE in SETUP, TIME with the time UNSET, NONE for no such occupation,
SHUT for one that is not OPEN, DENY outside the port's window, FULL for a queue of 4 or an occupation with 8 results and
pending readings (R92). Otherwise the clamped entry joins the tail with the next ticket, and the answer is CLMP when a field
was clamped (R93). The next ticket advances by one, wrapping from 65,535 to 1, and on past every ticket held by a queued or
in-flight reading: to the first after the old one that none holds (R93). The FULL detail byte follows R175 (log entry 13). -/
def Obligations.RdrqQueues : Prop :=
  ∀ (s : State) (p : Port) (tag : Byte) (l : List Byte), s.takes p → l.length = 8 →
    (s.model.mode = .setup → exec (.rdrq p tag l) s = .next (s.answer p tag .mode [])) ∧
    (s.model.mode = .survey → s.clock.time = .unset → exec (.rdrq p tag l) s = .next (s.answer p tag .time [])) ∧
    (s.model.mode = .survey → s.clock.time = .set →
      (s.occupation (u32At l 0) = none → exec (.rdrq p tag l) s = .next (s.answer p tag .none [])) ∧
      ∀ (o : Occupation) (w : Window), s.occupation (u32At l 0) = some o → w = s.model.groups.window p →
        (o.state ≠ .isOpen → exec (.rdrq p tag l) s = .next (s.answer p tag .shut [])) ∧
        (o.state = .isOpen → ¬(w.writeProtect = false ∧ w.first ≤ o.station ∧ o.station ≤ w.last) →
          exec (.rdrq p tag l) s = .next (s.answer p tag .deny [])) ∧
        (o.state = .isOpen → w.writeProtect = false → w.first ≤ o.station → o.station ≤ w.last →
          (s.engine.queue.length = 4 → exec (.rdrq p tag l) s = .next (s.answer p tag .full [0])) ∧
          (s.engine.queue.length ≠ 4 →
            o.results.length + s.engine.queue.countP (fun q => decide (q.occupation = u32At l 0)) +
              (if ∃ r, s.engine.reading = some r ∧ r.occupation = u32At l 0 then 1 else 0) = 8 →
            exec (.rdrq p tag l) s = .next (s.answer p tag .full [1])) ∧
          (s.engine.queue.length ≠ 4 →
            o.results.length + s.engine.queue.countP (fun q => decide (q.occupation = u32At l 0)) +
              (if ∃ r, s.engine.reading = some r ∧ r.occupation = u32At l 0 then 1 else 0) ≠ 8 →
            ∀ n m r k : Nat, n = max 1 (min 32 (u8At l 4)) → m = max 1 (min n (u8At l 5)) → r = min 32 (u8At l 6) →
              k = max 10 (min 16 (u8At l 7)) →
              ∀ (after : Nat → Nat) (queue : List QueueEntry) (held : List Nat) (next : Nat),
                (∀ t, after t = if t = 65535 then 1 else t + 1) →
                queue = s.engine.queue ++ [⟨s.engine.nextTicket, p, u32At l 0, n, m, r, k⟩] →
                held = queue.map (·.ticket) ++ (s.engine.reading.map (·.ticket)).toList →
                next = advancePast after held held.length (after s.engine.nextTicket) →
                (s.engine.queue.length < 4 → FirstFree after held s.engine.nextTicket next) ∧
                exec (.rdrq p tag l) s = .next
                  (({ s with engine := { s.engine with queue := queue, nextTicket := next } } : State).answer p tag
                    (if n = u8At l 4 ∧ m = u8At l 5 ∧ r = u8At l 6 ∧ k = u8At l 7 then .okay else .clmp)
                    (u16 s.engine.nextTicket ++ [byte n, byte m, byte r, byte k])))))

/-- How a reading goes on. It arms a gate of an IDLE Sensor Gate with its k, an empty accumulator and the latest thermal
report kept (R97, R102). It enters WAIT_LEVEL with a fresh timer (R96). After a gate it finishes when accepted equals N or
attempts equal N + R, waits when the level is UNLEVEL, and arms the next gate otherwise (R105). It finishes with its result
at the end of its occupation's list, DONE or SHORT, when accepted is at least M, and FAILED, TOO_FEW, otherwise; the engine
is then idle and RDON posted (R106, R107, R111). -/
def Obligations.ReadingsArmAndEnd : Prop :=
  (∀ (s : State) (r : Reading), s.gate.state = .idle → s.armReading r =
    { s with
      gate := { state := .armed, armer := some .engine, k := r.k, edgeCount := 0, refCount := 0, start := none,
                stop := none, stepped := false,
                limitDue := some (s.now + s.model.groups.gate.gateLimit.toNat * 100000),
                armCount := s.gate.armCount + 1 }
      engine := { s.engine with
        acc := { n := 0, sumX := 0, sumY := 0, leastX := 0, greatestX := 0, leastY := 0, greatestY := 0,
                 thermalFrame := none }
        kept := s.engine.latestReport.toList
        reading := some { r with state := .gating (.outstanding (s.gate.armCount + 1)), firstGateArmed := true } } }) ∧
  (∀ (s : State) (r : Reading), s.waitLevel r =
    { s with engine := { s.engine with
        reading := some { r with state := .waitLevel (s.now + s.model.groups.gate.levelWait.toNat * 10000000) } } }) ∧
  (∀ (s : State) (r : Reading),
    (r.accepted = r.n → s.afterGate r = s.finish r) ∧
    (r.attempts = r.n + r.r → s.afterGate r = s.finish r) ∧
    (r.accepted ≠ r.n → r.attempts ≠ r.n + r.r →
      (s.level.state = .unlevel → s.afterGate r = s.waitLevel r) ∧
      (s.level.state = .level → s.afterGate r = s.armReading r))) ∧
  ∀ (s : State) (r : Reading) (e : Engine) (x : ReadingResult),
    e = { s.engine with
      reading := none, kept := []
      acc := { n := 0, sumX := 0, sumY := 0, leastX := 0, greatestX := 0, leastY := 0, greatestY := 0,
               thermalFrame := none } } →
    x = { ticket := r.ticket, occupation := r.occupation, station := r.station
          outcome := if r.accepted = r.n then .done else .short
          value := roundDiv r.sums.s r.accepted, meanCal := roundDiv r.sums.gcal r.accepted
          meanTilt := roundDiv r.sums.tilt r.accepted, meanThermal := roundDiv r.sums.thermal r.accepted
          meanTide := roundDiv r.sums.tide r.accepted, spread := (r.sums.greatest - r.sums.least).toNat
          accepted := r.accepted, attempts := r.attempts, drops := r.drops
          meanTx := roundDiv r.sums.tx r.accepted, meanTy := roundDiv r.sums.ty r.accepted
          meanTemp := roundDiv r.sums.temp r.accepted, tideTime := r.sums.time / r.accepted
          n := r.n, m := r.m, k := r.k, generation := r.generation, flags := r.flags } →
    (r.accepted < r.m → s.finish r =
      State.postBoth { s with engine := e }
        (.rdon r.ticket .failed (some .tooFew) r.occupation r.accepted r.attempts)) ∧
    (r.m ≤ r.accepted → s.finish r =
      State.postBoth
        { s with
          engine := e
          occupations := { s.occupations with
            entries := s.occupations.entries.map fun o =>
              if o.number = r.occupation then { o with results := o.results ++ [x] } else o } }
        (.rdon r.ticket (if r.accepted = r.n then .done else .short) none r.occupation r.accepted r.attempts))

/-- TAKE_HEAD makes the oldest entry the in-flight reading, SETTLING with the settle timer, when the engine is idle; a
settle interval of 0 expires at once (R94, R95). At the settle timer's expiry the reading arms a gate when the level is
LEVEL and enters WAIT_LEVEL when it is UNLEVEL (R95). At the level-wait timer's expiry it ends FAILED, NOT_LEVEL, and RDON
is posted (R96, R111). Where no such timer is due, the three change nothing (the model's choice, log entry 3). -/
def Obligations.ReadingsStart : Prop :=
  (∀ s : State, s.engine.reading ≠ none ∨ s.engine.queue = [] → exec .takeHead s = .next s) ∧
  (∀ (s u : State) (q : QueueEntry) (qs : List QueueEntry) (o : Occupation) (r : Reading),
    s.engine.reading = none → s.engine.queue = q :: qs → s.occupation q.occupation = some o →
    r = { ticket := q.ticket, port := q.port, occupation := q.occupation, n := q.n, m := q.m, r := q.r, k := q.k
          station := o.station, generation := s.model.generation
          state := .settling (s.now + s.model.groups.gate.settle.toNat * 10000000)
          attempts := 0, accepted := 0, drops := ⟨0, 0, 0, 0, 0, 0⟩, firstGateArmed := false
          sums := ⟨0, 0, 0, 0, 0, 0, 0, 0, 0, 0, 0⟩, flags := ⟨false, false, false, false⟩ } →
    u = { s with engine := { s.engine with queue := qs, reading := some r } } →
    (s.model.groups.gate.settle ≠ 0 → exec .takeHead s = .next u) ∧
    (s.model.groups.gate.settle = 0 → s.level.state = .level → exec .takeHead s = .next (u.armReading r)) ∧
    (s.model.groups.gate.settle = 0 → s.level.state = .unlevel → exec .takeHead s = .next (u.waitLevel r))) ∧
  (∀ (s : State) (r : Reading) (due : Nat), s.engine.reading = some r → r.state = .settling due →
    (s.now < due → exec .settleExpiry s = .next s) ∧
    (due ≤ s.now → s.level.state = .level → exec .settleExpiry s = .next (s.armReading r)) ∧
    (due ≤ s.now → s.level.state = .unlevel → exec .settleExpiry s = .next (s.waitLevel r))) ∧
  (∀ s : State, (∀ r due, s.engine.reading = some r → r.state ≠ .settling due) →
    exec .settleExpiry s = .next s) ∧
  (∀ (s : State) (r : Reading) (due : Nat), s.engine.reading = some r → r.state = .waitLevel due →
    (s.now < due → exec .levelWaitExpiry s = .next s) ∧
    (due ≤ s.now → exec .levelWaitExpiry s = .next
      (State.postBoth
        { s with engine := { s.engine with
            reading := none, kept := []
            acc := { n := 0, sumX := 0, sumY := 0, leastX := 0, greatestX := 0, leastY := 0, greatestY := 0,
                     thermalFrame := none } } }
        (.rdon r.ticket .failed (some .notLevel) r.occupation r.accepted r.attempts)))) ∧
  ∀ s : State, (∀ r due, s.engine.reading = some r → r.state ≠ .waitLevel due) → exec .levelWaitExpiry s = .next s

/-- A level notice is taken: LEVEL in WAIT_LEVEL arms a gate (R96). UNLEVEL with a gate outstanding abandons one that is
COUNTING, which counts an attempt and an OFF_LEVEL drop, or ARMED, which counts nothing; the reading finishes when attempts
equal N + R and waits otherwise; and a gate already IDLE is left to its report (R98, R6). In every other case the notice has
no effect on the reading (R95, R96, R99). With no notice waiting LEVEL_NOTICE changes nothing (the model's choice, log
entry 3). -/
def Obligations.LevelNoticesAct : Prop :=
  (∀ s : State, s.engine.levelNotices = [] → exec .levelNotice s = .next s) ∧
  ∀ (s u : State) (l : LevelState) (ls : List LevelState), s.engine.levelNotices = l :: ls →
    u = { s with engine := { s.engine with levelNotices := ls } } →
    (s.engine.reading = none → exec .levelNotice s = .next u) ∧
    ∀ r, s.engine.reading = some r →
      ((∃ due, r.state = .settling due) ∨ (∃ h, r.state = .gating (.awaiting h)) ∨
          (l = .level ∧ ∃ g, r.state = .gating (.outstanding g)) ∨ (l = .unlevel ∧ ∃ due, r.state = .waitLevel due) →
        exec .levelNotice s = .next u) ∧
      (l = .level → ∀ due, r.state = .waitLevel due → exec .levelNotice s = .next (u.armReading r)) ∧
      ∀ g, l = .unlevel → r.state = .gating (.outstanding g) →
        (s.gate.state = .idle → exec .levelNotice s = .next u) ∧
        (s.gate.state ≠ .idle → ∀ (r' : Reading) (v : State),
          (s.gate.state = .armed → r' = r) →
          (s.gate.state = .counting →
            r' = { r with attempts := r.attempts + 1, drops := { r.drops with offLevel := r.drops.offLevel + 1 } }) →
          v = { u with
                gate := { s.gate with state := .idle, armer := none, edgeCount := 0, refCount := 0, start := none,
                                      stop := none, limitDue := none }
                engine := { u.engine with
                  kept := []
                  acc := { n := 0, sumX := 0, sumY := 0, leastX := 0, greatestX := 0, leastY := 0, greatestY := 0,
                           thermalFrame := none } } } →
          (r'.attempts = r.n + r.r → exec .levelNotice s = .next (v.finish r')) ∧
          (r'.attempts ≠ r.n + r.r → exec .levelNotice s = .next (v.waitLevel r')))

/-- What the engine takes for its gate: a frame of the gate outstanding joins the accumulator with its converted tilts, and
any other is discarded (R100). A timeout report of the gate outstanding counts an attempt and a NO_SIGNAL drop (R103). A
completion report of the gate outstanding settles its tilt and thermal frame, from the accumulator or, with no frame taken,
from the frame in force (R101), and is evaluated when the thermal report of that frame is kept, or awaits it (R102). A
report waits for the frames of its gate (R11, R100; log entry 11), and one of another gate is discarded (R99). With no frame
or no such report delivered the three commands change nothing (the model's choice, log entry 3). -/
def Obligations.GateReportsAreTaken : Prop :=
  (∀ s : State, s.engine.frames = [] → exec .gateAccumulatorFrame s = .next s) ∧
  (∀ (s u : State) (f : Frame) (gate : Nat) (fs : List GateFrame), s.engine.frames = ⟨gate, f⟩ :: fs →
    u = { s with engine := { s.engine with frames := fs } } →
    ((∀ r, s.engine.reading = some r → r.state ≠ .gating (.outstanding gate)) →
      exec .gateAccumulatorFrame s = .next u) ∧
    ∀ (r : Reading) (a b : GateAccumulator) (x y : Int), s.engine.reading = some r →
      r.state = .gating (.outstanding gate) → a = s.engine.acc →
      x = s.model.groups.tilt.tiltX f → y = s.model.groups.tilt.tiltY f →
      (a.n = 0 → b = ⟨1, a.sumX + x, a.sumY + y, x, x, y, y, some f.id⟩) →
      (0 < a.n → b = ⟨a.n + 1, a.sumX + x, a.sumY + y, min a.leastX x, max a.greatestX x, min a.leastY y,
        max a.greatestY y, some f.id⟩) →
      exec .gateAccumulatorFrame s = .next { u with engine := { u.engine with acc := b } }) ∧
  (∀ s : State, (∀ g k t, GateReport.timeout g k t ∉ s.engine.reports) → exec .timeoutReport s = .next s) ∧
  (∀ s : State, (∀ c, GateReport.completion c ∉ s.engine.reports) → exec .completionReport s = .next s) ∧
  (∀ (s u : State) (g k : Nat) (first : Option Stamp) (before after : List GateReport),
    s.engine.reports = before ++ .timeout g k first :: after → (∀ g k t, GateReport.timeout g k t ∉ before) →
    u = { s with engine := { s.engine with reports := before ++ after } } →
    ((∃ f ∈ s.engine.frames, f.gate = g) → exec .timeoutReport s = .next s) ∧
    ((∀ f ∈ s.engine.frames, f.gate ≠ g) →
      ((∀ r, s.engine.reading = some r → r.state ≠ .gating (.outstanding g)) → exec .timeoutReport s = .next u) ∧
      ∀ r, s.engine.reading = some r → r.state = .gating (.outstanding g) →
        exec .timeoutReport s = .next
          (State.afterGate { u with engine := { u.engine with kept := [] } }
            { r with attempts := r.attempts + 1, drops := { r.drops with noSignal := r.drops.noSignal + 1 } }))) ∧
  ∀ (s u : State) (c : Completion) (before after : List GateReport),
    s.engine.reports = before ++ .completion c :: after → (∀ d, GateReport.completion d ∉ before) →
    u = { s with engine := { s.engine with reports := before ++ after } } →
    ((∃ f ∈ s.engine.frames, f.gate = c.gate) → exec .completionReport s = .next s) ∧
    ((∀ f ∈ s.engine.frames, f.gate ≠ c.gate) →
      ((∀ r, s.engine.reading = some r → r.state ≠ .gating (.outstanding c.gate)) →
        exec .completionReport s = .next u) ∧
      ∀ (r : Reading) (a : GateAccumulator) (h : HeldGate), s.engine.reading = some r →
        r.state = .gating (.outstanding c.gate) → a = s.engine.acc →
        (∃ id, a.thermalFrame = some id ∧
          h = ⟨c, roundDiv a.sumX a.n, roundDiv a.sumY a.n, a.greatestX - a.leastX, a.greatestY - a.leastY, id⟩) ∨
        (∃ f, a.thermalFrame = none ∧ s.scan.latest = some f ∧
          h = ⟨c, s.model.groups.tilt.tiltX f, s.model.groups.tilt.tiltY f, 0, 0, f.id⟩) →
        ((∀ t ∈ s.engine.kept, t.frame ≠ h.thermalFrame) → exec .completionReport s = .next
          { u with engine := { u.engine with reading := some { r with state := .gating (.awaiting h) } } }) ∧
        ∀ t, s.engine.kept.find? (fun t => decide (t.frame = h.thermalFrame)) = some t →
          exec .completionReport s = u.evaluate r h t)

/-- A gate is evaluated: the attempt is counted, and a raw value outside the band, a tilt spread above a motion limit that
is set, or a report saturated or OUTSIDE drops the gate under its cause, in that order (R103). Otherwise the sample is the
calibrated value and the three corrections at the gate's tide time, summed and clamped; with at least 3 gates accepted and
an outlier limit set, a sample farther than the limit from the running mean is dropped (R104). An accepted gate joins the
sums and sets OFFSCALE and CLOCK_INTERNAL by its marks (R105). The decision of R105 follows in every case. -/
def Obligations.GatesAreEvaluated : Prop :=
  ∀ (s u : State) (r a : Reading) (h : HeldGate) (t : ThermalReport) (g : Groups), g = s.model.groups →
    u = { s with engine := { s.engine with kept := [] } } → a = { r with attempts := r.attempts + 1 } →
    (h.report.raw < g.gate.rawLow ∨ g.gate.rawHigh < h.report.raw →
      s.evaluate r h t = .next (u.afterGate { a with drops := { r.drops with outOfBand := r.drops.outOfBand + 1 } })) ∧
    (g.gate.rawLow ≤ h.report.raw → h.report.raw ≤ g.gate.rawHigh →
      ∀ moved : Prop, (moved ↔ 0 < g.tilt.motionLimit ∧
          (g.tilt.motionLimit < h.spreadX ∨ g.tilt.motionLimit < h.spreadY)) →
      (moved → s.evaluate r h t =
        .next (u.afterGate { a with drops := { r.drops with motion := r.drops.motion + 1 } })) ∧
      (¬moved → t.saturated = true ∨ t.window = .outside → s.evaluate r h t =
        .next (u.afterGate { a with drops := { r.drops with thermal := r.drops.thermal + 1 } })) ∧
      (¬moved → t.saturated = false → t.window = .inside →
        ∀ (gcal b tilt thermal tide sum v mean : Int) (off : Bool) (st : Station) (time : Nat),
          lookup g.cali.toList h.report.raw = some (gcal, off) → s.station r.station = some st → t.baseline = some b →
          time = (if h.report.stepped = true then h.report.stop.seconds
            else ((h.report.start.seconds * 65536 + h.report.start.fraction) +
              (h.report.stop.seconds * 65536 + h.report.stop.fraction)) / 131072) →
          tilt = tiltCorrection g.gate.g0 h.tx h.ty →
          thermal = clampInt (-50000000) 50000000
            (roundDiv (g.thrm.kT * (t.temp - g.thrm.setPoint) + g.thrm.kG * (t.temp - b)) 65536) →
          tide = (synthesize g time st.longitude st.factor).correction →
          sum = gcal + tilt + thermal + tide → v = clampInt (-2000000000) 2000000000 sum →
          mean = roundDiv r.sums.s r.accepted →
          (3 ≤ r.accepted ∧ 0 < g.gate.outlierLimit ∧ g.gate.outlierLimit < ((v - mean).natAbs : Int) →
            s.evaluate r h t = .next (u.afterGate { a with drops := { r.drops with outlier := r.drops.outlier + 1 } })) ∧
          (¬(3 ≤ r.accepted ∧ 0 < g.gate.outlierLimit ∧ g.gate.outlierLimit < ((v - mean).natAbs : Int)) →
            s.evaluate r h t = .next (u.afterGate
              { a with
                accepted := r.accepted + 1
                sums :=
                  { s := r.sums.s + v
                    least := if r.accepted = 0 then v else min r.sums.least v
                    greatest := if r.accepted = 0 then v else max r.sums.greatest v
                    gcal := r.sums.gcal + gcal, tilt := r.sums.tilt + tilt, thermal := r.sums.thermal + thermal
                    tide := r.sums.tide + tide, tx := r.sums.tx + h.tx, ty := r.sums.ty + h.ty
                    temp := r.sums.temp + t.temp, time := r.sums.time + time }
                flags := { r.flags with
                  offscale := r.flags.offscale || (off || decide (v ≠ sum))
                  clockInternal := r.flags.clockInternal || decide (h.report.stop.discipline = .internal) } }))))

/-- A thermal report becomes the latest one; while a reading is in flight its low-reset mark sets BASELINE_RESET (R109), it
is kept from an arm to the evaluation, and an evaluation that awaits it resumes (R102). A step notice sets TIME_STEPPED of a
reading whose first gate was armed, and nothing otherwise (R108). With nothing delivered the two commands change nothing
(the model's choice, log entry 3). -/
def Obligations.NoticesMarkTheReading : Prop :=
  (∀ s : State, s.engine.thermalReports = [] → exec .thermalReport s = .next s) ∧
  (∀ (s : State) (t : ThermalReport) (ts : List ThermalReport) (e : Engine), s.engine.thermalReports = t :: ts →
    e = { s.engine with thermalReports := ts, latestReport := some t } →
    (s.engine.reading = none → exec .thermalReport s = .next { s with engine := e }) ∧
    ∀ r a : Reading, s.engine.reading = some r →
      a = { r with flags := { r.flags with baselineReset := r.flags.baselineReset || t.lowReset } } →
      ((∀ phase, r.state ≠ .gating phase) →
        exec .thermalReport s = .next { s with engine := { e with reading := some a } }) ∧
      ((∃ g, r.state = .gating (.outstanding g)) ∨ (∃ h, r.state = .gating (.awaiting h) ∧ h.thermalFrame ≠ t.frame) →
        exec .thermalReport s = .next
          { s with engine := { e with reading := some a, kept := s.engine.kept ++ [t] } }) ∧
      ∀ h, r.state = .gating (.awaiting h) → h.thermalFrame = t.frame →
        exec .thermalReport s =
          State.evaluate { s with engine := { e with reading := some a, kept := s.engine.kept ++ [t] } } a h t) ∧
  (∀ s : State, s.engine.stepNotices = 0 → exec .stepNotice s = .next s) ∧
  ∀ (s : State) (n : Nat) (e : Engine), s.engine.stepNotices = n + 1 → e = { s.engine with stepNotices := n } →
    ((∀ r, s.engine.reading = some r → r.firstGateArmed = false) →
      exec .stepNotice s = .next { s with engine := e }) ∧
    ∀ r, s.engine.reading = some r → r.firstGateArmed = true →
      exec .stepNotice s = .next
        { s with engine := { e with reading := some { r with flags := { r.flags with timeStepped := true } } } }

/-- RDCN is answered NONE when no queued or in-flight reading holds the ticket, and DENY when the one that does is the other
port's (R112). It takes a queued reading out of the queue, the others keeping their order, and posts RDON ABORTED, QUEUED
(R113); it ends the one in flight, abandoning the gate that is outstanding, and posts RDON ABORTED, IN_FLIGHT, with the
counts as they stood (R114, R6). The answer's detail byte follows R175 (log entry 13). -/
def Obligations.RdcnCancels : Prop :=
  ∀ (s : State) (p : Port) (tag : Byte) (l : List Byte) (ticket : Nat), s.takes p → l.length = 2 →
    ticket = u16At l 0 →
    ((∀ q ∈ s.engine.queue, q.ticket ≠ ticket) → (∀ r, s.engine.reading = some r → r.ticket ≠ ticket) →
      exec (.rdcn p tag l) s = .next (s.answer p tag .none [])) ∧
    (∀ (before after : List QueueEntry) (q : QueueEntry), s.engine.queue = before ++ q :: after →
      (s.engine.queue.map (·.ticket)).Nodup → q.ticket = ticket →
      (q.port ≠ p → exec (.rdcn p tag l) s = .next (s.answer p tag .deny [])) ∧
      (q.port = p → exec (.rdcn p tag l) s = .next
        ((State.postBoth { s with engine := { s.engine with queue := before ++ after } }
          (.rdon ticket .aborted (some .queued) q.occupation 0 0)).answer p tag .okay (u16 ticket ++ [0])))) ∧
    ∀ r, (∀ q ∈ s.engine.queue, q.ticket ≠ ticket) → s.engine.reading = some r → r.ticket = ticket →
      (r.port ≠ p → exec (.rdcn p tag l) s = .next (s.answer p tag .deny [])) ∧
      (r.port = p → ∀ g : SensorGate,
        ((∃ n, r.state = .gating (.outstanding n)) → s.gate.state ≠ .idle →
          g = { s.gate with state := .idle, armer := none, edgeCount := 0, refCount := 0, start := none, stop := none,
                            limitDue := none }) →
        ((∀ n, r.state ≠ .gating (.outstanding n)) ∨ s.gate.state = .idle → g = s.gate) →
        exec (.rdcn p tag l) s = .next
          ((State.postBoth
            { s with
              gate := g
              engine := { s.engine with
                reading := none, kept := []
                acc := { n := 0, sumX := 0, sumY := 0, leastX := 0, greatestX := 0, leastY := 0, greatestY := 0,
                         thermalFrame := none } } }
            (.rdon ticket .aborted (some .inFlight) r.occupation r.accepted r.attempts)).answer p tag .okay
              (u16 ticket ++ [1])))

/-- Every step keeps the tickets distinct (R93, R94), the counts of queue entries, of the reading in flight and of results
adding up (R93, R103, R105, R107), and every result in a reading list within the bounds of R107. -/
def Obligations.StepKeepsReadingsInBounds : Prop :=
  (∀ s t : State, s.engine.TicketsDistinct → step s = .next t → t.engine.TicketsDistinct) ∧
  (∀ s t : State, s.CountsAddUp → step s = .next t → t.CountsAddUp) ∧
  ∀ s t : State, s.ResultsInRange → step s = .next t → t.ResultsInRange

/-! ### Stations and occupations -/

/-- STDF is refused with ARGS for a station number, longitude or factor mark out of range, DENY outside the port's window,
PEND with their number while occupations name the station, and FULL for a new station in a table of 120 (R120); otherwise it
creates the entry or replaces its longitude and factor, a factor above 32,767 clamped and answered CLMP (R121). STRM is
refused with ARGS, DENY, NONE or PEND, and otherwise deletes the entry and answers it (R122). The entry answered carries the
fields of R119 alone (log entry 13). -/
def Obligations.StationRequests : Prop :=
  ∀ (s : State) (p : Port) (tag : Byte) (w : Window), s.takes p → w = s.model.groups.window p →
    (∀ (l : List Byte) (n : Nat) (longitude : Int) (factor : Option Nat) (st : Status), l.length = 9 → n = u16At l 0 →
      longitude = s32At l 2 → factor = (if u8At l 6 = 1 then some (min 32767 (u16At l 7)) else none) →
      st = (if u8At l 6 = 1 ∧ 32767 < u16At l 7 then .clmp else .okay) →
      (¬(1 ≤ n ∧ n ≤ 65534) ∨ ¬Within (-180000000) 180000000 longitude ∨ 1 < u8At l 6 →
        exec (.stdf p tag l) s = .next (s.answer p tag .args [])) ∧
      (1 ≤ n → n ≤ 65534 → Within (-180000000) 180000000 longitude → u8At l 6 ≤ 1 →
        (¬(w.writeProtect = false ∧ w.first ≤ n ∧ n ≤ w.last) →
          exec (.stdf p tag l) s = .next (s.answer p tag .deny [])) ∧
        (w.writeProtect = false → w.first ≤ n → n ≤ w.last →
          (∀ e naming, s.station n = some e →
            naming = s.occupations.entries.countP (fun o => decide (o.station = n)) →
            (0 < naming → exec (.stdf p tag l) s = .next (s.answer p tag .pend [byte naming])) ∧
            (naming = 0 → ∀ new : Station, new = { e with longitude := longitude, factor := factor } →
              exec (.stdf p tag l) s = .next
                (({ s with stations := s.stations.map fun t => if t.number = n then new else t } : State).answer p tag
                  st ([1] ++ new.bytes)))) ∧
          (s.station n = none →
            (s.stations.length = 120 → exec (.stdf p tag l) s = .next (s.answer p tag .full [])) ∧
            (s.stations.length ≠ 120 → ∀ new : Station, new = ⟨n, longitude, factor, 0, none⟩ →
              exec (.stdf p tag l) s = .next
                (({ s with stations := s.stations ++ [new] } : State).answer p tag st ([0] ++ new.bytes))))))) ∧
    ∀ (l : List Byte) (n : Nat), l.length = 2 → n = u16At l 0 →
      (¬(1 ≤ n ∧ n ≤ 65534) → exec (.strm p tag l) s = .next (s.answer p tag .args [])) ∧
      (1 ≤ n → n ≤ 65534 →
        (¬(w.writeProtect = false ∧ w.first ≤ n ∧ n ≤ w.last) →
          exec (.strm p tag l) s = .next (s.answer p tag .deny [])) ∧
        (w.writeProtect = false → w.first ≤ n → n ≤ w.last →
          (s.station n = none → exec (.strm p tag l) s = .next (s.answer p tag .none [])) ∧
          ∀ e naming, s.station n = some e →
            naming = s.occupations.entries.countP (fun o => decide (o.station = n)) →
            (0 < naming → exec (.strm p tag l) s = .next (s.answer p tag .pend [byte naming])) ∧
            (naming = 0 → exec (.strm p tag l) s = .next
              (({ s with stations := s.stations.filter fun t => decide (t.number ≠ n) } : State).answer p tag .okay
                e.bytes))))

/-- OCOP is refused with ARGS, DENY, NONE, HELD with the number of the open occupation, or FULL at 12 entries (R126), and
otherwise opens an occupation with the counter's number, stamps it, and counts the visit, held at 255 (R127); the counter
advances by one, wrapping from 2^32 - 1 to 1, and on past every number in the table: to the first after the old one that no
entry holds (R125). OCCL is refused with NONE, DENY, SHUT or PEND (R129), and otherwise makes the station's open
occupation absent and frees an empty entry, or closes it at the tail of the archive queue (R130, R131). OCDS is refused with
NONE, DENY, BUSY for a STAGED occupation or PEND, and otherwise frees the entry and its place in the queue (R132). The answers'
details follow R175 (log entry 13). -/
def Obligations.OccupationRequests : Prop :=
  ∀ (s : State) (p : Port) (tag : Byte) (w : Window), s.takes p → w = s.model.groups.window p →
    (∀ (l : List Byte) (n : Nat), l.length = 2 → n = u16At l 0 →
      (¬(1 ≤ n ∧ n ≤ 65534) → exec (.ocop p tag l) s = .next (s.answer p tag .args [])) ∧
      (1 ≤ n → n ≤ 65534 →
        (¬(w.writeProtect = false ∧ w.first ≤ n ∧ n ≤ w.last) →
          exec (.ocop p tag l) s = .next (s.answer p tag .deny [])) ∧
        (w.writeProtect = false → w.first ≤ n → n ≤ w.last →
          (s.station n = none → exec (.ocop p tag l) s = .next (s.answer p tag .none [])) ∧
          ∀ e, s.station n = some e →
            (∀ o, e.openOccupation = some o → exec (.ocop p tag l) s = .next (s.answer p tag .held (u32 o))) ∧
            (e.openOccupation = none →
              (s.occupations.entries.length = 12 → exec (.ocop p tag l) s = .next (s.answer p tag .full [])) ∧
              (s.occupations.entries.length ≠ 12 → ∀ (number count : Nat) (stamp : Option Nat),
                number = s.occupations.counter → count = min (e.count + 1) 255 →
                (s.clock.time = .set → stamp = some s.clock.seconds) → (s.clock.time = .unset → stamp = none) →
                ∀ (after : Nat → Nat) (entries : List Occupation) (held : List Nat) (next : Nat),
                  (∀ t, after t = if t = 4294967295 then 1 else t + 1) →
                  entries = s.occupations.entries ++ [⟨number, n, .isOpen, stamp, none, []⟩] →
                  held = entries.map (·.number) → next = advancePast after held held.length (after number) →
                  (s.occupations.entries.length < 12 → FirstFree after held number next) ∧
                  exec (.ocop p tag l) s = .next
                    (({ s with
                        stations := s.stations.map fun t =>
                          if t.number = n then { t with count := count, openOccupation := some number } else t
                        occupations := { s.occupations with entries := entries, counter := next } } : State).answer
                      p tag .okay (u32 number ++ opt u32 4 stamp ++ [byte count]))))))) ∧
    ∀ (l : List Byte) (n : Nat), l.length = 4 → n = u32At l 0 →
      (s.occupation n = none →
        exec (.occl p tag l) s = .next (s.answer p tag .none []) ∧
        exec (.ocds p tag l) s = .next (s.answer p tag .none [])) ∧
      ∀ o, s.occupation n = some o →
        (¬(w.writeProtect = false ∧ w.first ≤ o.station ∧ o.station ≤ w.last) →
          exec (.occl p tag l) s = .next (s.answer p tag .deny []) ∧
          exec (.ocds p tag l) s = .next (s.answer p tag .deny [])) ∧
        (w.writeProtect = false → w.first ≤ o.station → o.station ≤ w.last →
          ∀ (left : List Station) (freed : OccupationTable),
            left = s.stations.map (fun t => if t.number = o.station ∧ t.openOccupation = some n then
              { t with openOccupation := none } else t) →
            freed = { s.occupations with
              entries := s.occupations.entries.filter fun x => decide (x.number ≠ n)
              archiveQueue := s.occupations.archiveQueue.filter fun x => decide (x ≠ n) } →
            (o.state ≠ .isOpen → exec (.occl p tag l) s = .next (s.answer p tag .shut [])) ∧
            (o.state = .staged → exec (.ocds p tag l) s = .next (s.answer p tag .busy [4])) ∧
            (o.state = .closed → exec (.ocds p tag l) s = .next
              (({ s with occupations := freed } : State).answer p tag .okay ([1] ++ [byte o.results.length]))) ∧
            (o.state = .isOpen → 0 < s.engine.pendingAt n →
              exec (.occl p tag l) s = .next (s.answer p tag .pend [byte (s.engine.pendingAt n)]) ∧
              exec (.ocds p tag l) s = .next (s.answer p tag .pend [byte (s.engine.pendingAt n)])) ∧
            (o.state = .isOpen → s.engine.pendingAt n = 0 →
              exec (.ocds p tag l) s = .next
                (({ s with stations := left, occupations := freed } : State).answer p tag .okay
                  ([0] ++ [byte o.results.length])) ∧
              (o.results = [] → exec (.occl p tag l) s = .next
                (({ s with stations := left, occupations := freed } : State).answer p tag .okay [0])) ∧
              (o.results ≠ [] → exec (.occl p tag l) s = .next
                (({ s with
                    stations := left
                    occupations := { s.occupations with
                      entries := s.occupations.entries.map fun x =>
                        if x.number = n then { x with state := .closed, closeTime := some s.clock.seconds } else x
                      archiveQueue := s.occupations.archiveQueue ++ [n] } } : State).answer p tag .okay
                  ([1] ++ u32 s.clock.seconds ++ [byte o.results.length]
                    ++ [byte (s.occupations.archiveQueue.length + 1)])))))

/-- Every step keeps the Station Table, the Occupation Table, the archive queue, the staging buffers and the pending readings
agreeing with one another (R92, R119, R122, R125, R126, R128, R130, R131, R134, R136, R140). -/
def Obligations.StepKeepsTablesAgree : Prop :=
  ∀ s t : State, s.TablesAgree → step s = .next t → t.TablesAgree

/-! ### The Survey Archive -/

/-- What the archive does of its own. STAGING copies the head of the archive queue, with its station's longitude and
factor, into a FREE buffer, buffer 0 when both are FREE (R140, R141). The idle flash engine starts a waiting store first
(R142, R88), else a page program of the earlier-loaded buffer at the write page while the archive is READY (R142, R143). A
store's completion clears the mark, keeps its outcome and posts MODE (R88, R171). Success of a program commits the record,
frees its buffer and its occupation, advances the write page and posts ARCH (R144, R147); a first failure spends the page
for a retry (R145), and a second puts the archive into FAULT (R146). Otherwise none of them changes anything (the model's
choice, log entry 3). -/
def Obligations.ArchiveWorks : Prop :=
  (∀ s : State, s.archive.state = .mounting ∨ s.occupations.archiveQueue = [] ∨
      (s.archive.buffer0 ≠ .free ∧ s.archive.buffer1 ≠ .free) → exec .staging s = .next s) ∧
  (∀ (s : State) (n closed : Nat) (rest : List Nat) (o : Occupation) (t : Station) (r : StagedRecord)
      (q : OccupationTable),
    s.occupations.archiveQueue = n :: rest → s.archive.state ≠ .mounting → s.occupation n = some o →
    s.station o.station = some t → o.closeTime = some closed →
    r = ⟨o.number, o.station, t.longitude, t.factor, o.openTime, closed, o.results⟩ →
    q = { s.occupations with
      archiveQueue := rest
      entries := s.occupations.entries.map fun x => if x.number = n then { x with state := .staged } else x } →
    (s.archive.buffer0 = .free → exec .staging s = .next
      { s with occupations := q, archive := { s.archive with
          buffer0 := .loaded r, loadOrder := s.archive.loadOrder ++ [.b0] } }) ∧
    (s.archive.buffer0 ≠ .free → s.archive.buffer1 = .free → exec .staging s = .next
      { s with occupations := q, archive := { s.archive with
          buffer1 := .loaded r, loadOrder := s.archive.loadOrder ++ [.b1] } })) ∧
  (∀ s : State,
    (s.archive.activity = .idle → s.model.storeOutstanding = true → exec .startModelStore s = .next
      { s with archive := { s.archive with activity := .store }, flash := { s.flash with image := none } }) ∧
    (s.archive.activity ≠ .idle ∨ s.model.storeOutstanding = false → exec .startModelStore s = .next s) ∧
    (s.archive.activity ≠ .idle ∨ s.model.storeOutstanding = true ∨ s.archive.state ≠ .ready ∨
      s.archive.loadOrder = [] → exec .startPageProgram s = .next s) ∧
    ∀ (r : StagedRecord) (order : List BufferId), s.archive.activity = .idle → s.model.storeOutstanding = false →
      s.archive.state = .ready →
      (s.archive.loadOrder = .b0 :: order → s.archive.buffer0 = .loaded r → exec .startPageProgram s = .next
        { s with
          archive := { s.archive with buffer0 := .programming r, loadOrder := order, activity := .program }
          flash := s.flash.beginProgram s.archive.writePage r }) ∧
      (s.archive.loadOrder = .b1 :: order → s.archive.buffer1 = .loaded r → exec .startPageProgram s = .next
        { s with
          archive := { s.archive with buffer1 := .programming r, loadOrder := order, activity := .program }
          flash := s.flash.beginProgram s.archive.writePage r })) ∧
  (∀ s : State, s.archive.activity ≠ .store → ∀ v, exec (.modelStoreCompletion v) s = .next s) ∧
  (∀ (s u : State) (gen : Nat), s.archive.activity = .store → gen = s.model.generation →
    u = { s with archive := { s.archive with activity := .idle }
                 model := { s.model with storeOutstanding := false } } →
    exec (.modelStoreCompletion true) s = .next
      (State.postBoth { u with flash := { s.flash with image := some ⟨s.model.groups, gen⟩ }
                               startUp := { s.startUp with lastStore := .stored gen } }
        (.mode .stored s.model.mode gen)) ∧
    exec (.modelStoreCompletion false) s = .next
      (State.postBoth { u with startUp := { s.startUp with lastStore := .failed gen } }
        (.mode .storeFailed s.model.mode gen))) ∧
  (∀ s : State, s.archive.activity ≠ .program →
    exec .pageProgramSuccess s = .next s ∧ exec .pageProgramFailure s = .next s) ∧
  ∀ (s : State) (r : StagedRecord) (free loaded : Archive) (page : Nat) (st : ArchiveState) (full : Prop),
    s.archive.activity = .program →
    (s.archive.buffer0 = .programming r ∧
        free = { s.archive with buffer0 := .free, activity := .idle, failureCount := 0 } ∧
        loaded = { s.archive with buffer0 := .loaded r, activity := .idle, loadOrder := .b0 :: s.archive.loadOrder }) ∨
      (s.archive.buffer1 = .programming r ∧ (∀ x, s.archive.buffer0 ≠ .programming x) ∧
        free = { s.archive with buffer1 := .free, activity := .idle, failureCount := 0 } ∧
        loaded = { s.archive with buffer1 := .loaded r, activity := .idle, loadOrder := .b1 :: s.archive.loadOrder }) →
    page = (if s.archive.writePage < 4095 then s.archive.writePage + 1 else 0) →
    (full ↔ 4095 ≤ s.archive.writePage ∧ s.model.groups.wrap = false) →
    (full → st = .full) → (¬full → st = s.archive.state) →
    (∀ (u : State) (waiting : Nat),
      waiting = (s.occupations.archiveQueue.filter fun x => decide (x ≠ r.occupation)).length →
      u = State.postBoth
        { s with
          archive := { free with writePage := page, state := st }
          flash := s.flash.commit s.archive.writePage r
          occupations := { s.occupations with
            entries := s.occupations.entries.filter fun x => decide (x.number ≠ r.occupation)
            archiveQueue := s.occupations.archiveQueue.filter fun x => decide (x ≠ r.occupation) } }
        (.arch .committed st (some r.occupation) (some s.archive.writePage) page waiting) →
      (¬full → exec .pageProgramSuccess s = .next u) ∧
      (full → exec .pageProgramSuccess s = .next (u.postBoth (.arch .full .full none none page waiting)))) ∧
    (s.archive.failureCount = 0 → ∀ u : State,
      u = { s with archive := { loaded with writePage := page, state := st, failureCount := 1 } } →
      (¬full → exec .pageProgramFailure s = .next u) ∧
      (full → exec .pageProgramFailure s = .next
        (u.postBoth (.arch .full .full none none page s.occupations.archiveQueue.length)))) ∧
    (s.archive.failureCount ≠ 0 → exec .pageProgramFailure s = .next
      (State.postBoth { s with archive := { loaded with state := .fault } }
        (.arch .fault .fault (some r.occupation) (some s.archive.writePage) s.archive.writePage
          s.occupations.archiveQueue.length)))

/-- ARRT outside FAULT is answered SAME; in FAULT it spends the failed page, sets the failure count to 0, makes the archive
READY, or FULL at the end of the range with wrap OFF, and posts ARCH (R149). ARSK sets the port's cursor to a page, the
oldest or the newest, EMPT with no VALID page (R152). ARNX is refused with BUSY at the page being programmed, and otherwise
returns the page or its condition and advances the port's cursor, from 4,095 to 0 (R153). The numbering of the archive states
in ARRT's answer follows R175 (log entry 13). -/
def Obligations.ArchiveRequests : Prop :=
  ∀ (s : State) (p : Port) (tag : Byte), s.takes p →
    (s.archive.state ≠ .fault → exec (.arrt p tag []) s = .next (s.answer p tag .same [])) ∧
    (s.archive.state = .fault → ∀ (page : Nat) (st : ArchiveState) (kind : ArchKind),
      page = (if s.archive.writePage < 4095 then s.archive.writePage + 1 else 0) →
      (4095 ≤ s.archive.writePage ∧ s.model.groups.wrap = false → st = .full ∧ kind = .full) →
      (s.archive.writePage < 4095 ∨ s.model.groups.wrap = true → st = .ready ∧ kind = .resumed) →
      exec (.arrt p tag []) s = .next
        ((State.postBoth { s with archive := { s.archive with state := st, writePage := page, failureCount := 0 } }
          (.arch kind st none none page s.occupations.archiveQueue.length)).answer p tag .okay
            ([byte st.code] ++ u16 page))) ∧
    (∀ l : List Byte, l.length = 3 →
      (u8At l 0 = 0 → 4096 ≤ u16At l 1 → exec (.arsk p tag l) s = .next (s.answer p tag .args [])) ∧
      (2 < u8At l 0 → exec (.arsk p tag l) s = .next (s.answer p tag .args [])) ∧
      (∀ page, (u8At l 0 = 0 ∧ page = u16At l 1 ∧ page < 4096) ∨
          (u8At l 0 = 1 ∧ ∃ n, s.flash.oldest = some (page, n)) ∨
          (u8At l 0 = 2 ∧ ∃ n, s.flash.newest = some (page, n)) →
        exec (.arsk p tag l) s = .next
          (({ s with archive := s.archive.setCursor p page } : State).answer p tag .okay (u16 page))) ∧
      ((u8At l 0 = 1 ∧ s.flash.oldest = none) ∨ (u8At l 0 = 2 ∧ s.flash.newest = none) →
        exec (.arsk p tag l) s = .next (s.answer p tag .empt []))) ∧
    ∀ (page : Nat) (u : State), page = s.archive.cursor p →
      u = { s with archive := s.archive.setCursor p (if page = 4095 then 0 else page + 1) } →
      (s.archive.activity = .program → page = s.archive.writePage →
        exec (.arnx p tag []) s = .next (s.answer p tag .busy [5])) ∧
      (page ≤ 4095 → s.archive.activity ≠ .program ∨ page ≠ s.archive.writePage →
        (s.flash.condition page = .valid → exec (.arnx p tag []) s = .next
          (u.answer p tag .okay (u16 page ++ (s.flash.pageContents page).take 504))) ∧
        (s.flash.condition page = .erased → exec (.arnx p tag []) s = .next
          (u.answer p tag .empt (u16 page ++ [0]))) ∧
        (s.flash.condition page = .invalid → exec (.arnx p tag []) s = .next
          (u.answer p tag .empt (u16 page ++ [1]))))

/-- A page is judged from its 512 bytes: ERASED when all read 0xFF, else VALID when the last four are the completion marker
and the four before them the sum of the first 504, else INVALID (R177). A page whose program has begun is INVALID, and one
whose program committed is VALID and holds its record's 512 bytes, every other page being as it was (R138, R143, R144,
R177; the bytes before the marker is written: log entry 15). The newest record is the VALID page with the highest
occupation number, the oldest the one with the lowest, the highest page number among equals (R151, R152). -/
def Obligations.PagesHoldRecords : Prop :=
  (∀ (f : Flash) (p : Nat) (l : List Byte), l = f.pageContents p →
    (f.condition p = .erased ↔ ∀ b ∈ l, b = 0xFF) ∧
    (f.condition p = .valid ↔ (∃ b ∈ l, b ≠ 0xFF) ∧ l.drop 508 = [0x3C, 0xA5, 0x5A, 0xC3] ∧
      u32At l 504 = ((l.take 504).map (·.toNat)).sum)) ∧
  (∀ (f : Flash) (p : Nat) (r : StagedRecord), CellsWf f.cells → r.results.length ≤ 8 →
    r.page.length = 512 ∧
    (f.beginProgram p r).condition p = .invalid ∧
    (f.beginProgram p r).pageContents p = r.page.take 508 ++ [0xFF, 0xFF, 0xFF, 0xFF] ∧
    (f.commit p r).condition p = .valid ∧ (f.commit p r).pageContents p = r.page ∧
    ∀ q, q ≠ p → (f.beginProgram p r).pageContents q = f.pageContents q ∧
      (f.beginProgram p r).condition q = f.condition q ∧ (f.commit p r).pageContents q = f.pageContents q ∧
      (f.commit p r).condition q = f.condition q) ∧
  ∀ f : Flash, CellsWf f.cells →
    (f.newest = none ↔ ∀ p, f.condition p ≠ .valid) ∧ (f.oldest = none ↔ ∀ p, f.condition p ≠ .valid) ∧
    (∀ p n, f.newest = some (p, n) → f.condition p = .valid ∧ n = u32At (f.pageContents p) 0 ∧
      ∀ q, f.condition q = .valid →
        u32At (f.pageContents q) 0 ≤ n ∧ (u32At (f.pageContents q) 0 = n → q ≤ p)) ∧
    ∀ p n, f.oldest = some (p, n) → f.condition p = .valid ∧ n = u32At (f.pageContents p) 0 ∧
      ∀ q, f.condition q = .valid →
        n ≤ u32At (f.pageContents q) 0 ∧ (u32At (f.pageContents q) 0 = n → q ≤ p)

/-- Every step keeps the flash cells in their canonical form, the write page within 0..4095 and the failure count within
0..1 (chapter 9.1; the canonical form is the model's own). -/
def Obligations.StepKeepsTheFlashForm : Prop :=
  (∀ s t : State, CellsWf s.flash.cells → step s = .next t → CellsWf t.flash.cells) ∧
  ∀ s t : State, s.archive.InRange → step s = .next t → t.archive.InRange

/-! ### The whole part -/

/-- In a sound state every command completes, and leaves a sound state: the model's faults stand only where the manual's
rules keep the part from standing (R44, R74, R81, R94, R101, R122, R131, R134; log entry 5). -/
def Obligations.SoundStatesNeverStop : Prop :=
  (∀ s : State, s.Sound → ∃ t, step s = .next t) ∧ ∀ s t : State, s.Sound → step s = .next t → t.Sound

/-- The state after the first POWER reset meets every invariant above (its flash is the model's choice, log entry 1). -/
def Obligations.ResetMeetsTheInvariants : Prop :=
  State.reset.LinesFollow ∧ State.reset.CountsHeld ∧ State.reset.PortsInOrder ∧ State.reset.clock.CountsInRange ∧
  State.reset.LevelMeansLevel ∧ State.reset.ModelInRange ∧ State.reset.engine.TicketsDistinct ∧ State.reset.CountsAddUp ∧
  State.reset.ResultsInRange ∧ State.reset.TablesAgree ∧ CellsWf State.reset.flash.cells ∧
  State.reset.archive.InRange ∧ State.reset.Sound
end

