-- ==== Sys2Proof/Laws/State.lean ====
section
/-!
SUPPORT. The small lemmas of the named updates of the state: what each leaves in every field.
-/

namespace Sys2Proof.Machine

variable (s : State)

/-! ### One port replaced -/

@[simp] theorem State.setPort_now (p : Port) (q : PortState) : (s.setPort p q).now = s.now := by cases p <;> rfl
@[simp] theorem State.setPort_gate (p : Port) (q : PortState) : (s.setPort p q).gate = s.gate := by cases p <;> rfl
@[simp] theorem State.setPort_cal (p : Port) (q : PortState) : (s.setPort p q).cal = s.cal := by cases p <;> rfl
@[simp] theorem State.setPort_scan (p : Port) (q : PortState) : (s.setPort p q).scan = s.scan := by cases p <;> rfl
@[simp] theorem State.setPort_level (p : Port) (q : PortState) : (s.setPort p q).level = s.level := by cases p <;> rfl
@[simp] theorem State.setPort_thermal (p : Port) (q : PortState) : (s.setPort p q).thermal = s.thermal := by cases p <;> rfl
@[simp] theorem State.setPort_clock (p : Port) (q : PortState) : (s.setPort p q).clock = s.clock := by cases p <;> rfl
@[simp] theorem State.setPort_model (p : Port) (q : PortState) : (s.setPort p q).model = s.model := by cases p <;> rfl
@[simp] theorem State.setPort_engine (p : Port) (q : PortState) : (s.setPort p q).engine = s.engine := by cases p <;> rfl
@[simp] theorem State.setPort_stations (p : Port) (q : PortState) : (s.setPort p q).stations = s.stations := by cases p <;> rfl
@[simp] theorem State.setPort_occupations (p : Port) (q : PortState) : (s.setPort p q).occupations = s.occupations := by cases p <;> rfl
@[simp] theorem State.setPort_archive (p : Port) (q : PortState) : (s.setPort p q).archive = s.archive := by cases p <;> rfl
@[simp] theorem State.setPort_flash (p : Port) (q : PortState) : (s.setPort p q).flash = s.flash := by cases p <;> rfl
@[simp] theorem State.setPort_startUp (p : Port) (q : PortState) : (s.setPort p q).startUp = s.startUp := by cases p <;> rfl
@[simp] theorem State.setPort_incoming (p : Port) (q : PortState) : (s.setPort p q).incoming = s.incoming := by cases p <;> rfl
@[simp] theorem State.setPort_pending (p : Port) (q : PortState) : (s.setPort p q).pending = s.pending := by cases p <;> rfl

@[simp] theorem State.port_setPort_same (p : Port) (q : PortState) : (s.setPort p q).port p = q := by cases p <;> rfl

@[simp] theorem State.port_setPort_other (p : Port) (q : PortState) : (s.setPort p q).port p.other = s.port p.other := by
  cases p <;> rfl

@[simp] theorem State.port_other_setPort (p : Port) (q : PortState) : (s.setPort p.other q).port p = s.port p := by
  cases p <;> rfl

@[simp] theorem State.setPort_setPort (p : Port) (q r : PortState) : (s.setPort p q).setPort p r = s.setPort p r := by
  cases p <;> rfl

@[simp] theorem State.setPort_port (p : Port) : s.setPort p (s.port p) = s := by cases p <;> rfl

@[simp] theorem State.setPort_a (q : PortState) : s.setPort .a q = { s with portA := q } := rfl

@[simp] theorem State.setPort_b (q : PortState) : s.setPort .b q = { s with portB := q } := rfl

@[simp] theorem State.port_a : s.port .a = s.portA := rfl

@[simp] theorem State.port_b : s.port .b = s.portB := rfl

theorem Port.other_other (p : Port) : p.other.other = p := by cases p <;> rfl

/-! ### The bytes on their way -/

@[simp] theorem Incoming.get_set_same (i : Incoming) (p : Port) (l : List Byte) : (i.set p l).get p = l := by cases p <;> rfl

@[simp] theorem Incoming.get_set_other (i : Incoming) (p : Port) (l : List Byte) : (i.set p l).get p.other = i.get p.other := by
  cases p <;> rfl

/-! ### Postings -/

@[simp] theorem State.post_now (p : Port) (d : Detail) : (s.post p d).now = s.now := by cases p <;> rfl
@[simp] theorem State.post_gate (p : Port) (d : Detail) : (s.post p d).gate = s.gate := by cases p <;> rfl
@[simp] theorem State.post_cal (p : Port) (d : Detail) : (s.post p d).cal = s.cal := by cases p <;> rfl
@[simp] theorem State.post_scan (p : Port) (d : Detail) : (s.post p d).scan = s.scan := by cases p <;> rfl
@[simp] theorem State.post_level (p : Port) (d : Detail) : (s.post p d).level = s.level := by cases p <;> rfl
@[simp] theorem State.post_thermal (p : Port) (d : Detail) : (s.post p d).thermal = s.thermal := by cases p <;> rfl
@[simp] theorem State.post_clock (p : Port) (d : Detail) : (s.post p d).clock = s.clock := by cases p <;> rfl
@[simp] theorem State.post_model (p : Port) (d : Detail) : (s.post p d).model = s.model := by cases p <;> rfl
@[simp] theorem State.post_engine (p : Port) (d : Detail) : (s.post p d).engine = s.engine := by cases p <;> rfl
@[simp] theorem State.post_stations (p : Port) (d : Detail) : (s.post p d).stations = s.stations := by cases p <;> rfl
@[simp] theorem State.post_occupations (p : Port) (d : Detail) : (s.post p d).occupations = s.occupations := by cases p <;> rfl
@[simp] theorem State.post_archive (p : Port) (d : Detail) : (s.post p d).archive = s.archive := by cases p <;> rfl
@[simp] theorem State.post_flash (p : Port) (d : Detail) : (s.post p d).flash = s.flash := by cases p <;> rfl
@[simp] theorem State.post_startUp (p : Port) (d : Detail) : (s.post p d).startUp = s.startUp := by cases p <;> rfl
@[simp] theorem State.post_incoming (p : Port) (d : Detail) : (s.post p d).incoming = s.incoming := by cases p <;> rfl
@[simp] theorem State.post_pending (p : Port) (d : Detail) : (s.post p d).pending = s.pending := by cases p <;> rfl

@[simp] theorem State.postBoth_now (d : Detail) : (s.postBoth d).now = s.now := rfl
@[simp] theorem State.postBoth_gate (d : Detail) : (s.postBoth d).gate = s.gate := rfl
@[simp] theorem State.postBoth_cal (d : Detail) : (s.postBoth d).cal = s.cal := rfl
@[simp] theorem State.postBoth_scan (d : Detail) : (s.postBoth d).scan = s.scan := rfl
@[simp] theorem State.postBoth_level (d : Detail) : (s.postBoth d).level = s.level := rfl
@[simp] theorem State.postBoth_thermal (d : Detail) : (s.postBoth d).thermal = s.thermal := rfl
@[simp] theorem State.postBoth_clock (d : Detail) : (s.postBoth d).clock = s.clock := rfl
@[simp] theorem State.postBoth_model (d : Detail) : (s.postBoth d).model = s.model := rfl
@[simp] theorem State.postBoth_engine (d : Detail) : (s.postBoth d).engine = s.engine := rfl
@[simp] theorem State.postBoth_stations (d : Detail) : (s.postBoth d).stations = s.stations := rfl
@[simp] theorem State.postBoth_occupations (d : Detail) : (s.postBoth d).occupations = s.occupations := rfl
@[simp] theorem State.postBoth_archive (d : Detail) : (s.postBoth d).archive = s.archive := rfl
@[simp] theorem State.postBoth_flash (d : Detail) : (s.postBoth d).flash = s.flash := rfl
@[simp] theorem State.postBoth_startUp (d : Detail) : (s.postBoth d).startUp = s.startUp := rfl
@[simp] theorem State.postBoth_incoming (d : Detail) : (s.postBoth d).incoming = s.incoming := rfl
@[simp] theorem State.postBoth_pending (d : Detail) : (s.postBoth d).pending = s.pending := rfl

@[simp] theorem State.postBoth_portA (d : Detail) : (s.postBoth d).portA = s.portA.post d := rfl

@[simp] theorem State.postBoth_portB (d : Detail) : (s.postBoth d).portB = s.portB.post d := rfl

@[simp] theorem State.postBoth_port (d : Detail) (p : Port) : (s.postBoth d).port p = (s.port p).post d := by
  cases p <;> rfl

@[simp] theorem State.post_port_same (p : Port) (d : Detail) : (s.post p d).port p = (s.port p).post d := by
  cases p <;> rfl

/-! ### Responses -/

@[simp] theorem State.answer_now (p : Port) (tag : Byte) (st : Status) (l : List Byte) :
    (s.answer p tag st l).now = s.now := by cases p <;> rfl
@[simp] theorem State.answer_gate (p : Port) (tag : Byte) (st : Status) (l : List Byte) :
    (s.answer p tag st l).gate = s.gate := by cases p <;> rfl
@[simp] theorem State.answer_cal (p : Port) (tag : Byte) (st : Status) (l : List Byte) :
    (s.answer p tag st l).cal = s.cal := by cases p <;> rfl
@[simp] theorem State.answer_scan (p : Port) (tag : Byte) (st : Status) (l : List Byte) :
    (s.answer p tag st l).scan = s.scan := by cases p <;> rfl
@[simp] theorem State.answer_level (p : Port) (tag : Byte) (st : Status) (l : List Byte) :
    (s.answer p tag st l).level = s.level := by cases p <;> rfl
@[simp] theorem State.answer_thermal (p : Port) (tag : Byte) (st : Status) (l : List Byte) :
    (s.answer p tag st l).thermal = s.thermal := by cases p <;> rfl
@[simp] theorem State.answer_clock (p : Port) (tag : Byte) (st : Status) (l : List Byte) :
    (s.answer p tag st l).clock = s.clock := by cases p <;> rfl
@[simp] theorem State.answer_model (p : Port) (tag : Byte) (st : Status) (l : List Byte) :
    (s.answer p tag st l).model = s.model := by cases p <;> rfl
@[simp] theorem State.answer_engine (p : Port) (tag : Byte) (st : Status) (l : List Byte) :
    (s.answer p tag st l).engine = s.engine := by cases p <;> rfl
@[simp] theorem State.answer_stations (p : Port) (tag : Byte) (st : Status) (l : List Byte) :
    (s.answer p tag st l).stations = s.stations := by cases p <;> rfl
@[simp] theorem State.answer_occupations (p : Port) (tag : Byte) (st : Status) (l : List Byte) :
    (s.answer p tag st l).occupations = s.occupations := by cases p <;> rfl
@[simp] theorem State.answer_archive (p : Port) (tag : Byte) (st : Status) (l : List Byte) :
    (s.answer p tag st l).archive = s.archive := by cases p <;> rfl
@[simp] theorem State.answer_flash (p : Port) (tag : Byte) (st : Status) (l : List Byte) :
    (s.answer p tag st l).flash = s.flash := by cases p <;> rfl
@[simp] theorem State.answer_startUp (p : Port) (tag : Byte) (st : Status) (l : List Byte) :
    (s.answer p tag st l).startUp = s.startUp := by cases p <;> rfl
@[simp] theorem State.answer_incoming (p : Port) (tag : Byte) (st : Status) (l : List Byte) :
    (s.answer p tag st l).incoming = s.incoming := by cases p <;> rfl
@[simp] theorem State.answer_pending (p : Port) (tag : Byte) (st : Status) (l : List Byte) :
    (s.answer p tag st l).pending = s.pending := by cases p <;> rfl

/-- The answer of a request on a port: the response, and the frame in progress over. -/
@[simp] theorem State.answer_port_same (p : Port) (tag : Byte) (st : Status) (l : List Byte) :
    (s.answer p tag st l).port p =
      { s.port p with received := [], response := some (responseFrame tag st l), sent := 0 } := by
  cases p <;> rfl

@[simp] theorem State.answer_port_other (p : Port) (tag : Byte) (st : Status) (l : List Byte) :
    (s.answer p tag st l).port p.other = s.port p.other := by cases p <;> rfl

/-! ### The engine's reading, the groups, the stations, a cursor -/

@[simp] theorem State.withReading_now (r : Reading) : (s.withReading r).now = s.now := rfl
@[simp] theorem State.withReading_gate (r : Reading) : (s.withReading r).gate = s.gate := rfl
@[simp] theorem State.withReading_cal (r : Reading) : (s.withReading r).cal = s.cal := rfl
@[simp] theorem State.withReading_scan (r : Reading) : (s.withReading r).scan = s.scan := rfl
@[simp] theorem State.withReading_level (r : Reading) : (s.withReading r).level = s.level := rfl
@[simp] theorem State.withReading_thermal (r : Reading) : (s.withReading r).thermal = s.thermal := rfl
@[simp] theorem State.withReading_clock (r : Reading) : (s.withReading r).clock = s.clock := rfl
@[simp] theorem State.withReading_model (r : Reading) : (s.withReading r).model = s.model := rfl
@[simp] theorem State.withReading_stations (r : Reading) : (s.withReading r).stations = s.stations := rfl
@[simp] theorem State.withReading_occupations (r : Reading) : (s.withReading r).occupations = s.occupations := rfl
@[simp] theorem State.withReading_archive (r : Reading) : (s.withReading r).archive = s.archive := rfl
@[simp] theorem State.withReading_flash (r : Reading) : (s.withReading r).flash = s.flash := rfl
@[simp] theorem State.withReading_startUp (r : Reading) : (s.withReading r).startUp = s.startUp := rfl
@[simp] theorem State.withReading_incoming (r : Reading) : (s.withReading r).incoming = s.incoming := rfl
@[simp] theorem State.withReading_pending (r : Reading) : (s.withReading r).pending = s.pending := rfl
@[simp] theorem State.withReading_portA (r : Reading) : (s.withReading r).portA = s.portA := rfl
@[simp] theorem State.withReading_portB (r : Reading) : (s.withReading r).portB = s.portB := rfl

@[simp] theorem State.withGroups_now (g : Groups) : (s.withGroups g).now = s.now := rfl
@[simp] theorem State.withGroups_gate (g : Groups) : (s.withGroups g).gate = s.gate := rfl
@[simp] theorem State.withGroups_cal (g : Groups) : (s.withGroups g).cal = s.cal := rfl
@[simp] theorem State.withGroups_scan (g : Groups) : (s.withGroups g).scan = s.scan := rfl
@[simp] theorem State.withGroups_level (g : Groups) : (s.withGroups g).level = s.level := rfl
@[simp] theorem State.withGroups_thermal (g : Groups) : (s.withGroups g).thermal = s.thermal := rfl
@[simp] theorem State.withGroups_clock (g : Groups) : (s.withGroups g).clock = s.clock := rfl
@[simp] theorem State.withGroups_engine (g : Groups) : (s.withGroups g).engine = s.engine := rfl
@[simp] theorem State.withGroups_stations (g : Groups) : (s.withGroups g).stations = s.stations := rfl
@[simp] theorem State.withGroups_occupations (g : Groups) : (s.withGroups g).occupations = s.occupations := rfl
@[simp] theorem State.withGroups_archive (g : Groups) : (s.withGroups g).archive = s.archive := rfl
@[simp] theorem State.withGroups_flash (g : Groups) : (s.withGroups g).flash = s.flash := rfl
@[simp] theorem State.withGroups_startUp (g : Groups) : (s.withGroups g).startUp = s.startUp := rfl
@[simp] theorem State.withGroups_incoming (g : Groups) : (s.withGroups g).incoming = s.incoming := rfl
@[simp] theorem State.withGroups_pending (g : Groups) : (s.withGroups g).pending = s.pending := rfl
@[simp] theorem State.withGroups_portA (g : Groups) : (s.withGroups g).portA = s.portA := rfl
@[simp] theorem State.withGroups_portB (g : Groups) : (s.withGroups g).portB = s.portB := rfl

@[simp] theorem State.withStations_now (l : List Station) : (s.withStations l).now = s.now := rfl
@[simp] theorem State.withStations_gate (l : List Station) : (s.withStations l).gate = s.gate := rfl
@[simp] theorem State.withStations_cal (l : List Station) : (s.withStations l).cal = s.cal := rfl
@[simp] theorem State.withStations_scan (l : List Station) : (s.withStations l).scan = s.scan := rfl
@[simp] theorem State.withStations_level (l : List Station) : (s.withStations l).level = s.level := rfl
@[simp] theorem State.withStations_thermal (l : List Station) : (s.withStations l).thermal = s.thermal := rfl
@[simp] theorem State.withStations_clock (l : List Station) : (s.withStations l).clock = s.clock := rfl
@[simp] theorem State.withStations_model (l : List Station) : (s.withStations l).model = s.model := rfl
@[simp] theorem State.withStations_engine (l : List Station) : (s.withStations l).engine = s.engine := rfl
@[simp] theorem State.withStations_occupations (l : List Station) : (s.withStations l).occupations = s.occupations := rfl
@[simp] theorem State.withStations_archive (l : List Station) : (s.withStations l).archive = s.archive := rfl
@[simp] theorem State.withStations_flash (l : List Station) : (s.withStations l).flash = s.flash := rfl
@[simp] theorem State.withStations_startUp (l : List Station) : (s.withStations l).startUp = s.startUp := rfl
@[simp] theorem State.withStations_incoming (l : List Station) : (s.withStations l).incoming = s.incoming := rfl
@[simp] theorem State.withStations_pending (l : List Station) : (s.withStations l).pending = s.pending := rfl
@[simp] theorem State.withStations_portA (l : List Station) : (s.withStations l).portA = s.portA := rfl
@[simp] theorem State.withStations_portB (l : List Station) : (s.withStations l).portB = s.portB := rfl

@[simp] theorem State.withReading_reading (r : Reading) : (s.withReading r).engine.reading = some r := rfl

@[simp] theorem State.withReading_queue (r : Reading) : (s.withReading r).engine.queue = s.engine.queue := rfl

@[simp] theorem State.withGroups_groups (g : Groups) : (s.withGroups g).model.groups = g := rfl

@[simp] theorem State.withGroups_mode (g : Groups) : (s.withGroups g).model.mode = s.model.mode := rfl

@[simp] theorem State.withStations_stations (l : List Station) : (s.withStations l).stations = l := rfl

@[simp] theorem State.seek_now (p : Port) (n : Nat) : (s.seek p n).now = s.now := rfl
@[simp] theorem State.seek_gate (p : Port) (n : Nat) : (s.seek p n).gate = s.gate := rfl
@[simp] theorem State.seek_cal (p : Port) (n : Nat) : (s.seek p n).cal = s.cal := rfl
@[simp] theorem State.seek_scan (p : Port) (n : Nat) : (s.seek p n).scan = s.scan := rfl
@[simp] theorem State.seek_level (p : Port) (n : Nat) : (s.seek p n).level = s.level := rfl
@[simp] theorem State.seek_thermal (p : Port) (n : Nat) : (s.seek p n).thermal = s.thermal := rfl
@[simp] theorem State.seek_clock (p : Port) (n : Nat) : (s.seek p n).clock = s.clock := rfl
@[simp] theorem State.seek_model (p : Port) (n : Nat) : (s.seek p n).model = s.model := rfl
@[simp] theorem State.seek_engine (p : Port) (n : Nat) : (s.seek p n).engine = s.engine := rfl
@[simp] theorem State.seek_stations (p : Port) (n : Nat) : (s.seek p n).stations = s.stations := rfl
@[simp] theorem State.seek_occupations (p : Port) (n : Nat) : (s.seek p n).occupations = s.occupations := rfl
@[simp] theorem State.seek_flash (p : Port) (n : Nat) : (s.seek p n).flash = s.flash := rfl
@[simp] theorem State.seek_startUp (p : Port) (n : Nat) : (s.seek p n).startUp = s.startUp := rfl
@[simp] theorem State.seek_incoming (p : Port) (n : Nat) : (s.seek p n).incoming = s.incoming := rfl
@[simp] theorem State.seek_pending (p : Port) (n : Nat) : (s.seek p n).pending = s.pending := rfl
@[simp] theorem State.seek_portA (p : Port) (n : Nat) : (s.seek p n).portA = s.portA := rfl
@[simp] theorem State.seek_portB (p : Port) (n : Nat) : (s.seek p n).portB = s.portB := rfl

@[simp] theorem State.seek_cursor_same (p : Port) (n : Nat) : (s.seek p n).archive.cursor p = n := by cases p <;> rfl

@[simp] theorem State.seek_cursor_other (p : Port) (n : Nat) :
    (s.seek p n).archive.cursor p.other = s.archive.cursor p.other := by cases p <;> rfl

end Sys2Proof.Machine
end

