-- ==== Sys2Proof/Laws/Blocks.lean ====
section
/-!
SUPPORT. What each shared operation of the blocks leaves as it was: one lemma for each operation, every field of the state
that it cannot change.
-/

namespace Sys2Proof.Machine

variable (s : State)

@[simp] theorem State.giveStepNotice_frame :
    (s.giveStepNotice).now = s.now ∧ (s.giveStepNotice).cal = s.cal ∧ (s.giveStepNotice).scan = s.scan ∧
      (s.giveStepNotice).level = s.level ∧ (s.giveStepNotice).thermal = s.thermal ∧
      (s.giveStepNotice).clock = s.clock ∧ (s.giveStepNotice).model = s.model ∧
      (s.giveStepNotice).stations = s.stations ∧ (s.giveStepNotice).occupations = s.occupations ∧
      (s.giveStepNotice).archive = s.archive ∧ (s.giveStepNotice).flash = s.flash ∧
      (s.giveStepNotice).portA = s.portA ∧ (s.giveStepNotice).portB = s.portB ∧
      (s.giveStepNotice).startUp = s.startUp ∧ (s.giveStepNotice).pending = s.pending ∧
      (s.giveStepNotice).incoming = s.incoming := by simp [State.giveStepNotice]

@[simp] theorem State.tick_frame (date : Nat) :
    (s.tick date).now = s.now ∧ (s.tick date).cal = s.cal ∧ (s.tick date).scan = s.scan ∧
      (s.tick date).level = s.level ∧ (s.tick date).thermal = s.thermal ∧ (s.tick date).model = s.model ∧
      (s.tick date).stations = s.stations ∧ (s.tick date).occupations = s.occupations ∧
      (s.tick date).archive = s.archive ∧ (s.tick date).flash = s.flash ∧ (s.tick date).startUp = s.startUp ∧
      (s.tick date).pending = s.pending ∧ (s.tick date).incoming = s.incoming := by
  unfold State.tick; dsimp only; split <;> simp

@[simp] theorem State.returnInternal_frame (c : ClckCause) :
    (s.returnInternal c).now = s.now ∧ (s.returnInternal c).gate = s.gate ∧ (s.returnInternal c).cal = s.cal ∧
      (s.returnInternal c).scan = s.scan ∧ (s.returnInternal c).level = s.level ∧
      (s.returnInternal c).thermal = s.thermal ∧ (s.returnInternal c).model = s.model ∧
      (s.returnInternal c).engine = s.engine ∧ (s.returnInternal c).stations = s.stations ∧
      (s.returnInternal c).occupations = s.occupations ∧ (s.returnInternal c).archive = s.archive ∧
      (s.returnInternal c).flash = s.flash ∧ (s.returnInternal c).startUp = s.startUp ∧
      (s.returnInternal c).pending = s.pending ∧
      (s.returnInternal c).incoming = s.incoming := by simp [State.returnInternal]

@[simp] theorem State.qualify_frame :
    (s.qualify).now = s.now ∧ (s.qualify).cal = s.cal ∧ (s.qualify).scan = s.scan ∧ (s.qualify).level = s.level ∧
      (s.qualify).thermal = s.thermal ∧ (s.qualify).model = s.model ∧ (s.qualify).stations = s.stations ∧
      (s.qualify).occupations = s.occupations ∧ (s.qualify).archive = s.archive ∧ (s.qualify).flash = s.flash ∧
      (s.qualify).startUp = s.startUp ∧ (s.qualify).pending = s.pending ∧ (s.qualify).incoming = s.incoming := by
  unfold State.qualify; dsimp only; split <;> simp

@[simp] theorem State.pulseInternal_frame :
    (s.pulseInternal).now = s.now ∧ (s.pulseInternal).cal = s.cal ∧ (s.pulseInternal).scan = s.scan ∧
      (s.pulseInternal).level = s.level ∧ (s.pulseInternal).thermal = s.thermal ∧ (s.pulseInternal).model = s.model ∧
      (s.pulseInternal).stations = s.stations ∧ (s.pulseInternal).occupations = s.occupations ∧
      (s.pulseInternal).archive = s.archive ∧ (s.pulseInternal).flash = s.flash ∧
      (s.pulseInternal).startUp = s.startUp ∧ (s.pulseInternal).pending = s.pending ∧
      (s.pulseInternal).incoming = s.incoming := by
  unfold State.pulseInternal; dsimp only; repeat' split
  all_goals simp

@[simp] theorem State.pulseDisciplined_frame :
    (s.pulseDisciplined).now = s.now ∧ (s.pulseDisciplined).cal = s.cal ∧ (s.pulseDisciplined).scan = s.scan ∧
      (s.pulseDisciplined).level = s.level ∧ (s.pulseDisciplined).thermal = s.thermal ∧
      (s.pulseDisciplined).model = s.model ∧ (s.pulseDisciplined).stations = s.stations ∧
      (s.pulseDisciplined).occupations = s.occupations ∧ (s.pulseDisciplined).archive = s.archive ∧
      (s.pulseDisciplined).flash = s.flash ∧ (s.pulseDisciplined).startUp = s.startUp ∧
      (s.pulseDisciplined).pending = s.pending ∧ (s.pulseDisciplined).incoming = s.incoming := by
  unfold State.pulseDisciplined; dsimp only; repeat' split
  all_goals simp

@[simp] theorem State.secondPulse_frame :
    (s.secondPulse).now = s.now ∧ (s.secondPulse).cal = s.cal ∧ (s.secondPulse).scan = s.scan ∧
      (s.secondPulse).level = s.level ∧ (s.secondPulse).thermal = s.thermal ∧ (s.secondPulse).model = s.model ∧
      (s.secondPulse).stations = s.stations ∧ (s.secondPulse).occupations = s.occupations ∧
      (s.secondPulse).archive = s.archive ∧ (s.secondPulse).flash = s.flash ∧ (s.secondPulse).startUp = s.startUp ∧
      (s.secondPulse).pending = s.pending ∧ (s.secondPulse).incoming = s.incoming := by
  unfold State.secondPulse; split <;> simp

@[simp] theorem State.substituteTick_frame :
    (s.substituteTick).now = s.now ∧ (s.substituteTick).cal = s.cal ∧ (s.substituteTick).scan = s.scan ∧
      (s.substituteTick).level = s.level ∧ (s.substituteTick).thermal = s.thermal ∧
      (s.substituteTick).model = s.model ∧ (s.substituteTick).stations = s.stations ∧
      (s.substituteTick).occupations = s.occupations ∧ (s.substituteTick).archive = s.archive ∧
      (s.substituteTick).flash = s.flash ∧ (s.substituteTick).startUp = s.startUp ∧
      (s.substituteTick).pending = s.pending ∧ (s.substituteTick).incoming = s.incoming := by
  unfold State.substituteTick; dsimp only; split <;> simp

@[simp] theorem State.armGate_frame (a : Armer) (k : Nat) :
    (s.armGate a k).now = s.now ∧ (s.armGate a k).cal = s.cal ∧ (s.armGate a k).scan = s.scan ∧
      (s.armGate a k).level = s.level ∧ (s.armGate a k).thermal = s.thermal ∧ (s.armGate a k).clock = s.clock ∧
      (s.armGate a k).model = s.model ∧ (s.armGate a k).engine = s.engine ∧ (s.armGate a k).stations = s.stations ∧
      (s.armGate a k).occupations = s.occupations ∧ (s.armGate a k).archive = s.archive ∧
      (s.armGate a k).flash = s.flash ∧ (s.armGate a k).portA = s.portA ∧ (s.armGate a k).portB = s.portB ∧
      (s.armGate a k).startUp = s.startUp ∧ (s.armGate a k).pending = s.pending ∧
      (s.armGate a k).incoming = s.incoming := by
  unfold State.armGate; split <;> simp

@[simp] theorem State.handReport_frame (r : GateReport) :
    (s.handReport r).now = s.now ∧ (s.handReport r).gate = s.gate ∧ (s.handReport r).scan = s.scan ∧
      (s.handReport r).level = s.level ∧ (s.handReport r).thermal = s.thermal ∧ (s.handReport r).clock = s.clock ∧
      (s.handReport r).model = s.model ∧ (s.handReport r).stations = s.stations ∧
      (s.handReport r).occupations = s.occupations ∧ (s.handReport r).archive = s.archive ∧
      (s.handReport r).flash = s.flash ∧ (s.handReport r).portA = s.portA ∧ (s.handReport r).portB = s.portB ∧
      (s.handReport r).startUp = s.startUp ∧ (s.handReport r).pending = s.pending ∧
      (s.handReport r).incoming = s.incoming := by
  unfold State.handReport; split <;> simp

@[simp] theorem State.completeGate_frame :
    (s.completeGate).now = s.now ∧ (s.completeGate).scan = s.scan ∧ (s.completeGate).level = s.level ∧
      (s.completeGate).thermal = s.thermal ∧ (s.completeGate).clock = s.clock ∧ (s.completeGate).model = s.model ∧
      (s.completeGate).stations = s.stations ∧ (s.completeGate).occupations = s.occupations ∧
      (s.completeGate).archive = s.archive ∧ (s.completeGate).flash = s.flash ∧ (s.completeGate).portA = s.portA ∧
      (s.completeGate).portB = s.portB ∧ (s.completeGate).startUp = s.startUp ∧
      (s.completeGate).pending = s.pending ∧ (s.completeGate).incoming = s.incoming := by simp [State.completeGate]

@[simp] theorem State.startGate_frame :
    (s.startGate).now = s.now ∧ (s.startGate).cal = s.cal ∧ (s.startGate).scan = s.scan ∧
      (s.startGate).level = s.level ∧ (s.startGate).thermal = s.thermal ∧ (s.startGate).clock = s.clock ∧
      (s.startGate).model = s.model ∧ (s.startGate).engine = s.engine ∧ (s.startGate).stations = s.stations ∧
      (s.startGate).occupations = s.occupations ∧ (s.startGate).archive = s.archive ∧ (s.startGate).flash = s.flash ∧
      (s.startGate).portA = s.portA ∧ (s.startGate).portB = s.portB ∧ (s.startGate).startUp = s.startUp ∧
      (s.startGate).pending = s.pending ∧ (s.startGate).incoming = s.incoming := by simp [State.startGate]

@[simp] theorem State.freqEdge_frame :
    (s.freqEdge).now = s.now ∧ (s.freqEdge).scan = s.scan ∧ (s.freqEdge).level = s.level ∧
      (s.freqEdge).thermal = s.thermal ∧ (s.freqEdge).clock = s.clock ∧ (s.freqEdge).model = s.model ∧
      (s.freqEdge).stations = s.stations ∧ (s.freqEdge).occupations = s.occupations ∧
      (s.freqEdge).archive = s.archive ∧ (s.freqEdge).flash = s.flash ∧ (s.freqEdge).portA = s.portA ∧
      (s.freqEdge).portB = s.portB ∧ (s.freqEdge).startUp = s.startUp ∧ (s.freqEdge).pending = s.pending ∧
      (s.freqEdge).incoming = s.incoming := by
  unfold State.freqEdge; split
  · simp
  · simp
  · split <;> simp

@[simp] theorem State.freqEdges_frame (n : Nat) :
    (s.freqEdges n).now = s.now ∧ (s.freqEdges n).scan = s.scan ∧ (s.freqEdges n).level = s.level ∧
      (s.freqEdges n).thermal = s.thermal ∧ (s.freqEdges n).clock = s.clock ∧ (s.freqEdges n).model = s.model ∧
      (s.freqEdges n).stations = s.stations ∧ (s.freqEdges n).occupations = s.occupations ∧
      (s.freqEdges n).archive = s.archive ∧ (s.freqEdges n).flash = s.flash ∧ (s.freqEdges n).portA = s.portA ∧
      (s.freqEdges n).portB = s.portB ∧ (s.freqEdges n).startUp = s.startUp ∧ (s.freqEdges n).pending = s.pending ∧
      (s.freqEdges n).incoming = s.incoming := by
  unfold State.freqEdges; dsimp only; repeat' split
  all_goals simp

@[simp] theorem State.timeoutGate_frame :
    (s.timeoutGate).now = s.now ∧ (s.timeoutGate).scan = s.scan ∧ (s.timeoutGate).level = s.level ∧
      (s.timeoutGate).thermal = s.thermal ∧ (s.timeoutGate).clock = s.clock ∧ (s.timeoutGate).model = s.model ∧
      (s.timeoutGate).stations = s.stations ∧ (s.timeoutGate).occupations = s.occupations ∧
      (s.timeoutGate).archive = s.archive ∧ (s.timeoutGate).flash = s.flash ∧ (s.timeoutGate).portA = s.portA ∧
      (s.timeoutGate).portB = s.portB ∧ (s.timeoutGate).startUp = s.startUp ∧ (s.timeoutGate).pending = s.pending ∧
      (s.timeoutGate).incoming = s.incoming := by simp [State.timeoutGate]

@[simp] theorem State.postCalibrationEnd_frame (o : RdonOutcome) :
    (s.postCalibrationEnd o).now = s.now ∧ (s.postCalibrationEnd o).gate = s.gate ∧
      (s.postCalibrationEnd o).cal = s.cal ∧ (s.postCalibrationEnd o).scan = s.scan ∧
      (s.postCalibrationEnd o).level = s.level ∧ (s.postCalibrationEnd o).thermal = s.thermal ∧
      (s.postCalibrationEnd o).clock = s.clock ∧ (s.postCalibrationEnd o).model = s.model ∧
      (s.postCalibrationEnd o).engine = s.engine ∧ (s.postCalibrationEnd o).stations = s.stations ∧
      (s.postCalibrationEnd o).occupations = s.occupations ∧ (s.postCalibrationEnd o).archive = s.archive ∧
      (s.postCalibrationEnd o).flash = s.flash ∧ (s.postCalibrationEnd o).startUp = s.startUp ∧
      (s.postCalibrationEnd o).pending = s.pending ∧ (s.postCalibrationEnd o).incoming = s.incoming := by
  unfold State.postCalibrationEnd; split <;> simp

@[simp] theorem State.startScan_frame :
    (s.startScan).now = s.now ∧ (s.startScan).gate = s.gate ∧ (s.startScan).cal = s.cal ∧
      (s.startScan).level = s.level ∧ (s.startScan).thermal = s.thermal ∧ (s.startScan).clock = s.clock ∧
      (s.startScan).model = s.model ∧ (s.startScan).engine = s.engine ∧ (s.startScan).stations = s.stations ∧
      (s.startScan).occupations = s.occupations ∧ (s.startScan).archive = s.archive ∧ (s.startScan).flash = s.flash ∧
      (s.startScan).portA = s.portA ∧ (s.startScan).portB = s.portB ∧ (s.startScan).startUp = s.startUp ∧
      (s.startScan).pending = s.pending ∧ (s.startScan).incoming = s.incoming := by simp [State.startScan]

@[simp] theorem State.deliver_frame (f : Frame) :
    (s.deliver f).now = s.now ∧ (s.deliver f).gate = s.gate ∧ (s.deliver f).scan = s.scan ∧
      (s.deliver f).clock = s.clock ∧ (s.deliver f).model = s.model ∧ (s.deliver f).stations = s.stations ∧
      (s.deliver f).occupations = s.occupations ∧ (s.deliver f).archive = s.archive ∧ (s.deliver f).flash = s.flash ∧
      (s.deliver f).portA = s.portA ∧ (s.deliver f).portB = s.portB ∧ (s.deliver f).startUp = s.startUp ∧
      (s.deliver f).pending = s.pending ∧ (s.deliver f).incoming = s.incoming := by
  unfold State.deliver; dsimp only; split <;> simp

@[simp] theorem State.arrive_frame (due : Nat) :
    (s.arrive due).now = s.now ∧ (s.arrive due).gate = s.gate ∧ (s.arrive due).clock = s.clock ∧
      (s.arrive due).model = s.model ∧ (s.arrive due).stations = s.stations ∧
      (s.arrive due).occupations = s.occupations ∧ (s.arrive due).archive = s.archive ∧
      (s.arrive due).flash = s.flash ∧ (s.arrive due).portA = s.portA ∧ (s.arrive due).portB = s.portB ∧
      (s.arrive due).startUp = s.startUp ∧ (s.arrive due).pending = s.pending ∧
      (s.arrive due).incoming = s.incoming := by simp [State.arrive]

@[simp] theorem State.reportLevel_frame (c : LevlCause) :
    (s.reportLevel c).now = s.now ∧ (s.reportLevel c).gate = s.gate ∧ (s.reportLevel c).cal = s.cal ∧
      (s.reportLevel c).scan = s.scan ∧ (s.reportLevel c).level = s.level ∧ (s.reportLevel c).thermal = s.thermal ∧
      (s.reportLevel c).clock = s.clock ∧ (s.reportLevel c).model = s.model ∧
      (s.reportLevel c).stations = s.stations ∧ (s.reportLevel c).occupations = s.occupations ∧
      (s.reportLevel c).archive = s.archive ∧ (s.reportLevel c).flash = s.flash ∧
      (s.reportLevel c).startUp = s.startUp ∧ (s.reportLevel c).pending = s.pending ∧
      (s.reportLevel c).incoming = s.incoming := by simp [State.reportLevel]

@[simp] theorem State.judgeUnlevel_frame (f : Frame) :
    (s.judgeUnlevel f).now = s.now ∧ (s.judgeUnlevel f).gate = s.gate ∧ (s.judgeUnlevel f).cal = s.cal ∧
      (s.judgeUnlevel f).scan = s.scan ∧ (s.judgeUnlevel f).thermal = s.thermal ∧
      (s.judgeUnlevel f).clock = s.clock ∧ (s.judgeUnlevel f).model = s.model ∧
      (s.judgeUnlevel f).stations = s.stations ∧ (s.judgeUnlevel f).occupations = s.occupations ∧
      (s.judgeUnlevel f).archive = s.archive ∧ (s.judgeUnlevel f).flash = s.flash ∧
      (s.judgeUnlevel f).startUp = s.startUp ∧ (s.judgeUnlevel f).pending = s.pending ∧
      (s.judgeUnlevel f).incoming = s.incoming := by
  unfold State.judgeUnlevel; dsimp only; repeat' split
  all_goals simp

@[simp] theorem State.judgeLevel_frame (f : Frame) :
    (s.judgeLevel f).now = s.now ∧ (s.judgeLevel f).gate = s.gate ∧ (s.judgeLevel f).cal = s.cal ∧
      (s.judgeLevel f).scan = s.scan ∧ (s.judgeLevel f).thermal = s.thermal ∧ (s.judgeLevel f).clock = s.clock ∧
      (s.judgeLevel f).model = s.model ∧ (s.judgeLevel f).stations = s.stations ∧
      (s.judgeLevel f).occupations = s.occupations ∧ (s.judgeLevel f).archive = s.archive ∧
      (s.judgeLevel f).flash = s.flash ∧ (s.judgeLevel f).startUp = s.startUp ∧
      (s.judgeLevel f).pending = s.pending ∧ (s.judgeLevel f).incoming = s.incoming := by
  unfold State.judgeLevel; dsimp only; repeat' split
  all_goals simp

@[simp] theorem State.levelFrame_frame (f : Frame) :
    (s.levelFrame f).now = s.now ∧ (s.levelFrame f).gate = s.gate ∧ (s.levelFrame f).cal = s.cal ∧
      (s.levelFrame f).scan = s.scan ∧ (s.levelFrame f).thermal = s.thermal ∧ (s.levelFrame f).clock = s.clock ∧
      (s.levelFrame f).model = s.model ∧ (s.levelFrame f).stations = s.stations ∧
      (s.levelFrame f).occupations = s.occupations ∧ (s.levelFrame f).archive = s.archive ∧
      (s.levelFrame f).flash = s.flash ∧ (s.levelFrame f).startUp = s.startUp ∧
      (s.levelFrame f).pending = s.pending ∧ (s.levelFrame f).incoming = s.incoming := by
  unfold State.levelFrame; dsimp only; split <;> simp

@[simp] theorem State.reinitLevel_frame :
    (s.reinitLevel).now = s.now ∧ (s.reinitLevel).gate = s.gate ∧ (s.reinitLevel).cal = s.cal ∧
      (s.reinitLevel).scan = s.scan ∧ (s.reinitLevel).thermal = s.thermal ∧ (s.reinitLevel).clock = s.clock ∧
      (s.reinitLevel).model = s.model ∧ (s.reinitLevel).stations = s.stations ∧
      (s.reinitLevel).occupations = s.occupations ∧ (s.reinitLevel).archive = s.archive ∧
      (s.reinitLevel).flash = s.flash ∧ (s.reinitLevel).startUp = s.startUp ∧ (s.reinitLevel).pending = s.pending ∧
      (s.reinitLevel).incoming = s.incoming := by
  unfold State.reinitLevel; dsimp only; split <;> simp

@[simp] theorem State.thermalFrame_frame (f : Frame) :
    (s.thermalFrame f).now = s.now ∧ (s.thermalFrame f).gate = s.gate ∧ (s.thermalFrame f).cal = s.cal ∧
      (s.thermalFrame f).scan = s.scan ∧ (s.thermalFrame f).level = s.level ∧ (s.thermalFrame f).clock = s.clock ∧
      (s.thermalFrame f).model = s.model ∧ (s.thermalFrame f).stations = s.stations ∧
      (s.thermalFrame f).occupations = s.occupations ∧ (s.thermalFrame f).archive = s.archive ∧
      (s.thermalFrame f).flash = s.flash ∧ (s.thermalFrame f).startUp = s.startUp ∧
      (s.thermalFrame f).pending = s.pending ∧ (s.thermalFrame f).incoming = s.incoming := by
  unfold State.thermalFrame; dsimp only; split <;> simp

@[simp] theorem State.reinitThermal_frame :
    (s.reinitThermal).now = s.now ∧ (s.reinitThermal).gate = s.gate ∧ (s.reinitThermal).cal = s.cal ∧
      (s.reinitThermal).scan = s.scan ∧ (s.reinitThermal).level = s.level ∧ (s.reinitThermal).clock = s.clock ∧
      (s.reinitThermal).model = s.model ∧ (s.reinitThermal).engine = s.engine ∧
      (s.reinitThermal).stations = s.stations ∧ (s.reinitThermal).occupations = s.occupations ∧
      (s.reinitThermal).archive = s.archive ∧ (s.reinitThermal).flash = s.flash ∧
      (s.reinitThermal).startUp = s.startUp ∧ (s.reinitThermal).pending = s.pending ∧
      (s.reinitThermal).incoming = s.incoming := by
  unfold State.reinitThermal; dsimp only; repeat' split
  all_goals simp

@[simp] theorem State.groupEffect_frame (id : GroupId) :
    (s.groupEffect id).now = s.now ∧ (s.groupEffect id).gate = s.gate ∧ (s.groupEffect id).cal = s.cal ∧
      (s.groupEffect id).clock = s.clock ∧ (s.groupEffect id).model = s.model ∧
      (s.groupEffect id).stations = s.stations ∧ (s.groupEffect id).occupations = s.occupations ∧
      (s.groupEffect id).archive = s.archive ∧ (s.groupEffect id).flash = s.flash ∧
      (s.groupEffect id).startUp = s.startUp ∧ (s.groupEffect id).pending = s.pending ∧
      (s.groupEffect id).incoming = s.incoming := by
  unfold State.groupEffect; split <;> simp

@[simp] theorem State.postMode_frame (k : ModeKind) (g : Nat) :
    (s.postMode k g).now = s.now ∧ (s.postMode k g).gate = s.gate ∧ (s.postMode k g).cal = s.cal ∧
      (s.postMode k g).scan = s.scan ∧ (s.postMode k g).level = s.level ∧ (s.postMode k g).thermal = s.thermal ∧
      (s.postMode k g).clock = s.clock ∧ (s.postMode k g).model = s.model ∧ (s.postMode k g).engine = s.engine ∧
      (s.postMode k g).stations = s.stations ∧ (s.postMode k g).occupations = s.occupations ∧
      (s.postMode k g).archive = s.archive ∧ (s.postMode k g).flash = s.flash ∧
      (s.postMode k g).startUp = s.startUp ∧ (s.postMode k g).pending = s.pending ∧
      (s.postMode k g).incoming = s.incoming := by simp [State.postMode]

@[simp] theorem State.enterSetup_frame :
    (s.enterSetup).now = s.now ∧ (s.enterSetup).gate = s.gate ∧ (s.enterSetup).cal = s.cal ∧
      (s.enterSetup).scan = s.scan ∧ (s.enterSetup).level = s.level ∧ (s.enterSetup).thermal = s.thermal ∧
      (s.enterSetup).clock = s.clock ∧ (s.enterSetup).engine = s.engine ∧ (s.enterSetup).stations = s.stations ∧
      (s.enterSetup).occupations = s.occupations ∧ (s.enterSetup).archive = s.archive ∧
      (s.enterSetup).flash = s.flash ∧ (s.enterSetup).startUp = s.startUp ∧ (s.enterSetup).pending = s.pending ∧
      (s.enterSetup).incoming = s.incoming := by simp [State.enterSetup]

@[simp] theorem State.postArch_frame (k : ArchKind) (o p : Option Nat) :
    (s.postArch k o p).now = s.now ∧ (s.postArch k o p).gate = s.gate ∧ (s.postArch k o p).cal = s.cal ∧
      (s.postArch k o p).scan = s.scan ∧ (s.postArch k o p).level = s.level ∧
      (s.postArch k o p).thermal = s.thermal ∧ (s.postArch k o p).clock = s.clock ∧
      (s.postArch k o p).model = s.model ∧ (s.postArch k o p).engine = s.engine ∧
      (s.postArch k o p).stations = s.stations ∧ (s.postArch k o p).occupations = s.occupations ∧
      (s.postArch k o p).archive = s.archive ∧ (s.postArch k o p).flash = s.flash ∧
      (s.postArch k o p).startUp = s.startUp ∧ (s.postArch k o p).pending = s.pending ∧
      (s.postArch k o p).incoming = s.incoming := by simp [State.postArch]

@[simp] theorem State.releaseArchive_frame :
    (s.releaseArchive).now = s.now ∧ (s.releaseArchive).gate = s.gate ∧ (s.releaseArchive).cal = s.cal ∧
      (s.releaseArchive).scan = s.scan ∧ (s.releaseArchive).level = s.level ∧
      (s.releaseArchive).thermal = s.thermal ∧ (s.releaseArchive).clock = s.clock ∧
      (s.releaseArchive).model = s.model ∧ (s.releaseArchive).engine = s.engine ∧
      (s.releaseArchive).stations = s.stations ∧ (s.releaseArchive).occupations = s.occupations ∧
      (s.releaseArchive).flash = s.flash ∧ (s.releaseArchive).startUp = s.startUp ∧
      (s.releaseArchive).pending = s.pending ∧ (s.releaseArchive).incoming = s.incoming := by
  unfold State.releaseArchive; split <;> simp

@[simp] theorem State.enterSurvey_frame :
    (s.enterSurvey).now = s.now ∧ (s.enterSurvey).gate = s.gate ∧ (s.enterSurvey).cal = s.cal ∧
      (s.enterSurvey).scan = s.scan ∧ (s.enterSurvey).clock = s.clock ∧ (s.enterSurvey).stations = s.stations ∧
      (s.enterSurvey).occupations = s.occupations ∧ (s.enterSurvey).flash = s.flash ∧
      (s.enterSurvey).startUp = s.startUp ∧ (s.enterSurvey).pending = s.pending ∧
      (s.enterSurvey).incoming = s.incoming := by simp [State.enterSurvey]

@[simp] theorem State.armReading_frame (r : Reading) :
    (s.armReading r).now = s.now ∧ (s.armReading r).cal = s.cal ∧ (s.armReading r).scan = s.scan ∧
      (s.armReading r).level = s.level ∧ (s.armReading r).thermal = s.thermal ∧ (s.armReading r).clock = s.clock ∧
      (s.armReading r).model = s.model ∧ (s.armReading r).stations = s.stations ∧
      (s.armReading r).occupations = s.occupations ∧ (s.armReading r).archive = s.archive ∧
      (s.armReading r).flash = s.flash ∧ (s.armReading r).portA = s.portA ∧ (s.armReading r).portB = s.portB ∧
      (s.armReading r).startUp = s.startUp ∧ (s.armReading r).pending = s.pending ∧
      (s.armReading r).incoming = s.incoming := by simp [State.armReading]

@[simp] theorem State.waitLevel_frame (r : Reading) :
    (s.waitLevel r).now = s.now ∧ (s.waitLevel r).gate = s.gate ∧ (s.waitLevel r).cal = s.cal ∧
      (s.waitLevel r).scan = s.scan ∧ (s.waitLevel r).level = s.level ∧ (s.waitLevel r).thermal = s.thermal ∧
      (s.waitLevel r).clock = s.clock ∧ (s.waitLevel r).model = s.model ∧ (s.waitLevel r).stations = s.stations ∧
      (s.waitLevel r).occupations = s.occupations ∧ (s.waitLevel r).archive = s.archive ∧
      (s.waitLevel r).flash = s.flash ∧ (s.waitLevel r).portA = s.portA ∧ (s.waitLevel r).portB = s.portB ∧
      (s.waitLevel r).startUp = s.startUp ∧ (s.waitLevel r).pending = s.pending ∧
      (s.waitLevel r).incoming = s.incoming := by simp [State.waitLevel]

@[simp] theorem State.settled_frame (r : Reading) :
    (s.settled r).now = s.now ∧ (s.settled r).cal = s.cal ∧ (s.settled r).scan = s.scan ∧
      (s.settled r).level = s.level ∧ (s.settled r).thermal = s.thermal ∧ (s.settled r).clock = s.clock ∧
      (s.settled r).model = s.model ∧ (s.settled r).stations = s.stations ∧
      (s.settled r).occupations = s.occupations ∧ (s.settled r).archive = s.archive ∧ (s.settled r).flash = s.flash ∧
      (s.settled r).portA = s.portA ∧ (s.settled r).portB = s.portB ∧ (s.settled r).startUp = s.startUp ∧
      (s.settled r).pending = s.pending ∧ (s.settled r).incoming = s.incoming := by
  unfold State.settled; split <;> simp

@[simp] theorem State.endReading_frame (r : Reading) (o : RdonOutcome) (c : Option RdonCause) :
    (s.endReading r o c).now = s.now ∧ (s.endReading r o c).gate = s.gate ∧ (s.endReading r o c).cal = s.cal ∧
      (s.endReading r o c).scan = s.scan ∧ (s.endReading r o c).level = s.level ∧
      (s.endReading r o c).thermal = s.thermal ∧ (s.endReading r o c).clock = s.clock ∧
      (s.endReading r o c).model = s.model ∧ (s.endReading r o c).stations = s.stations ∧
      (s.endReading r o c).occupations = s.occupations ∧ (s.endReading r o c).archive = s.archive ∧
      (s.endReading r o c).flash = s.flash ∧ (s.endReading r o c).startUp = s.startUp ∧
      (s.endReading r o c).pending = s.pending ∧
      (s.endReading r o c).incoming = s.incoming := by simp [State.endReading]

@[simp] theorem State.addResult_frame (x : ReadingResult) :
    (s.addResult x).now = s.now ∧ (s.addResult x).gate = s.gate ∧ (s.addResult x).cal = s.cal ∧
      (s.addResult x).scan = s.scan ∧ (s.addResult x).level = s.level ∧ (s.addResult x).thermal = s.thermal ∧
      (s.addResult x).clock = s.clock ∧ (s.addResult x).model = s.model ∧ (s.addResult x).engine = s.engine ∧
      (s.addResult x).stations = s.stations ∧ (s.addResult x).archive = s.archive ∧ (s.addResult x).flash = s.flash ∧
      (s.addResult x).portA = s.portA ∧ (s.addResult x).portB = s.portB ∧ (s.addResult x).startUp = s.startUp ∧
      (s.addResult x).pending = s.pending ∧ (s.addResult x).incoming = s.incoming := by simp [State.addResult]

@[simp] theorem State.finish_frame (r : Reading) :
    (s.finish r).now = s.now ∧ (s.finish r).gate = s.gate ∧ (s.finish r).cal = s.cal ∧ (s.finish r).scan = s.scan ∧
      (s.finish r).level = s.level ∧ (s.finish r).thermal = s.thermal ∧ (s.finish r).clock = s.clock ∧
      (s.finish r).model = s.model ∧ (s.finish r).stations = s.stations ∧ (s.finish r).archive = s.archive ∧
      (s.finish r).flash = s.flash ∧ (s.finish r).startUp = s.startUp ∧ (s.finish r).pending = s.pending ∧
      (s.finish r).incoming = s.incoming := by
  unfold State.finish; split <;> simp

@[simp] theorem State.afterGate_frame (r : Reading) :
    (s.afterGate r).now = s.now ∧ (s.afterGate r).cal = s.cal ∧ (s.afterGate r).scan = s.scan ∧
      (s.afterGate r).level = s.level ∧ (s.afterGate r).thermal = s.thermal ∧ (s.afterGate r).clock = s.clock ∧
      (s.afterGate r).model = s.model ∧ (s.afterGate r).stations = s.stations ∧ (s.afterGate r).archive = s.archive ∧
      (s.afterGate r).flash = s.flash ∧ (s.afterGate r).startUp = s.startUp ∧ (s.afterGate r).pending = s.pending ∧
      (s.afterGate r).incoming = s.incoming := by
  unfold State.afterGate; repeat' split
  all_goals simp

@[simp] theorem State.gateOver_frame :
    (s.gateOver).now = s.now ∧ (s.gateOver).gate = s.gate ∧ (s.gateOver).cal = s.cal ∧ (s.gateOver).scan = s.scan ∧
      (s.gateOver).level = s.level ∧ (s.gateOver).thermal = s.thermal ∧ (s.gateOver).clock = s.clock ∧
      (s.gateOver).model = s.model ∧ (s.gateOver).stations = s.stations ∧ (s.gateOver).occupations = s.occupations ∧
      (s.gateOver).archive = s.archive ∧ (s.gateOver).flash = s.flash ∧ (s.gateOver).portA = s.portA ∧
      (s.gateOver).portB = s.portB ∧ (s.gateOver).startUp = s.startUp ∧ (s.gateOver).pending = s.pending ∧
      (s.gateOver).incoming = s.incoming := by simp [State.gateOver]

@[simp] theorem State.loseLevel_frame (r : Reading) :
    (s.loseLevel r).now = s.now ∧ (s.loseLevel r).cal = s.cal ∧ (s.loseLevel r).scan = s.scan ∧
      (s.loseLevel r).level = s.level ∧ (s.loseLevel r).thermal = s.thermal ∧ (s.loseLevel r).clock = s.clock ∧
      (s.loseLevel r).model = s.model ∧ (s.loseLevel r).stations = s.stations ∧ (s.loseLevel r).archive = s.archive ∧
      (s.loseLevel r).flash = s.flash ∧ (s.loseLevel r).startUp = s.startUp ∧ (s.loseLevel r).pending = s.pending ∧
      (s.loseLevel r).incoming = s.incoming := by
  unfold State.loseLevel; dsimp only; repeat' split
  all_goals simp

@[simp] theorem State.noticed_frame (l : LevelState) :
    (s.noticed l).now = s.now ∧ (s.noticed l).cal = s.cal ∧ (s.noticed l).scan = s.scan ∧
      (s.noticed l).level = s.level ∧ (s.noticed l).thermal = s.thermal ∧ (s.noticed l).clock = s.clock ∧
      (s.noticed l).model = s.model ∧ (s.noticed l).stations = s.stations ∧ (s.noticed l).archive = s.archive ∧
      (s.noticed l).flash = s.flash ∧ (s.noticed l).startUp = s.startUp ∧ (s.noticed l).pending = s.pending ∧
      (s.noticed l).incoming = s.incoming := by
  unfold State.noticed; repeat' split
  all_goals simp

@[simp] theorem State.cancelQueued_frame (q : QueueEntry) :
    (s.cancelQueued q).now = s.now ∧ (s.cancelQueued q).gate = s.gate ∧ (s.cancelQueued q).cal = s.cal ∧
      (s.cancelQueued q).scan = s.scan ∧ (s.cancelQueued q).level = s.level ∧
      (s.cancelQueued q).thermal = s.thermal ∧ (s.cancelQueued q).clock = s.clock ∧
      (s.cancelQueued q).model = s.model ∧ (s.cancelQueued q).stations = s.stations ∧
      (s.cancelQueued q).occupations = s.occupations ∧ (s.cancelQueued q).archive = s.archive ∧
      (s.cancelQueued q).flash = s.flash ∧ (s.cancelQueued q).startUp = s.startUp ∧
      (s.cancelQueued q).pending = s.pending ∧ (s.cancelQueued q).incoming = s.incoming := by simp [State.cancelQueued]

@[simp] theorem State.cancelInFlight_frame (r : Reading) :
    (s.cancelInFlight r).now = s.now ∧ (s.cancelInFlight r).cal = s.cal ∧ (s.cancelInFlight r).scan = s.scan ∧
      (s.cancelInFlight r).level = s.level ∧ (s.cancelInFlight r).thermal = s.thermal ∧
      (s.cancelInFlight r).clock = s.clock ∧ (s.cancelInFlight r).model = s.model ∧
      (s.cancelInFlight r).stations = s.stations ∧ (s.cancelInFlight r).occupations = s.occupations ∧
      (s.cancelInFlight r).archive = s.archive ∧ (s.cancelInFlight r).flash = s.flash ∧
      (s.cancelInFlight r).startUp = s.startUp ∧ (s.cancelInFlight r).pending = s.pending ∧
      (s.cancelInFlight r).incoming = s.incoming := by
  unfold State.cancelInFlight; dsimp only; split <;> simp

@[simp] theorem State.postFullIf_frame (b : Bool) :
    (s.postFullIf b).now = s.now ∧ (s.postFullIf b).gate = s.gate ∧ (s.postFullIf b).cal = s.cal ∧
      (s.postFullIf b).scan = s.scan ∧ (s.postFullIf b).level = s.level ∧ (s.postFullIf b).thermal = s.thermal ∧
      (s.postFullIf b).clock = s.clock ∧ (s.postFullIf b).model = s.model ∧ (s.postFullIf b).engine = s.engine ∧
      (s.postFullIf b).stations = s.stations ∧ (s.postFullIf b).occupations = s.occupations ∧
      (s.postFullIf b).archive = s.archive ∧ (s.postFullIf b).flash = s.flash ∧
      (s.postFullIf b).startUp = s.startUp ∧ (s.postFullIf b).pending = s.pending ∧
      (s.postFullIf b).incoming = s.incoming := by
  unfold State.postFullIf; split <;> simp

@[simp] theorem State.programSucceeds_frame (b : BufferId) (r : StagedRecord) :
    (s.programSucceeds b r).now = s.now ∧ (s.programSucceeds b r).gate = s.gate ∧
      (s.programSucceeds b r).cal = s.cal ∧ (s.programSucceeds b r).scan = s.scan ∧
      (s.programSucceeds b r).level = s.level ∧ (s.programSucceeds b r).thermal = s.thermal ∧
      (s.programSucceeds b r).clock = s.clock ∧ (s.programSucceeds b r).model = s.model ∧
      (s.programSucceeds b r).engine = s.engine ∧ (s.programSucceeds b r).stations = s.stations ∧
      (s.programSucceeds b r).startUp = s.startUp ∧ (s.programSucceeds b r).pending = s.pending ∧
      (s.programSucceeds b r).incoming = s.incoming := by simp [State.programSucceeds]

@[simp] theorem State.programFails_frame (b : BufferId) (r : StagedRecord) :
    (s.programFails b r).now = s.now ∧ (s.programFails b r).gate = s.gate ∧ (s.programFails b r).cal = s.cal ∧
      (s.programFails b r).scan = s.scan ∧ (s.programFails b r).level = s.level ∧
      (s.programFails b r).thermal = s.thermal ∧ (s.programFails b r).clock = s.clock ∧
      (s.programFails b r).model = s.model ∧ (s.programFails b r).engine = s.engine ∧
      (s.programFails b r).stations = s.stations ∧ (s.programFails b r).occupations = s.occupations ∧
      (s.programFails b r).flash = s.flash ∧ (s.programFails b r).startUp = s.startUp ∧
      (s.programFails b r).pending = s.pending ∧ (s.programFails b r).incoming = s.incoming := by
  unfold State.programFails; dsimp only; split <;> simp

@[simp] theorem State.resumeArchive_frame :
    (s.resumeArchive).now = s.now ∧ (s.resumeArchive).gate = s.gate ∧ (s.resumeArchive).cal = s.cal ∧
      (s.resumeArchive).scan = s.scan ∧ (s.resumeArchive).level = s.level ∧ (s.resumeArchive).thermal = s.thermal ∧
      (s.resumeArchive).clock = s.clock ∧ (s.resumeArchive).model = s.model ∧ (s.resumeArchive).engine = s.engine ∧
      (s.resumeArchive).stations = s.stations ∧ (s.resumeArchive).occupations = s.occupations ∧
      (s.resumeArchive).flash = s.flash ∧ (s.resumeArchive).startUp = s.startUp ∧
      (s.resumeArchive).pending = s.pending ∧ (s.resumeArchive).incoming = s.incoming := by simp [State.resumeArchive]

@[simp] theorem State.postReset_frame :
    (s.postReset).now = s.now ∧ (s.postReset).gate = s.gate ∧ (s.postReset).cal = s.cal ∧
      (s.postReset).scan = s.scan ∧ (s.postReset).level = s.level ∧ (s.postReset).thermal = s.thermal ∧
      (s.postReset).clock = s.clock ∧ (s.postReset).model = s.model ∧ (s.postReset).engine = s.engine ∧
      (s.postReset).stations = s.stations ∧ (s.postReset).occupations = s.occupations ∧
      (s.postReset).archive = s.archive ∧ (s.postReset).flash = s.flash ∧ (s.postReset).startUp = s.startUp ∧
      (s.postReset).pending = s.pending ∧ (s.postReset).incoming = s.incoming := by simp [State.postReset]

@[simp] theorem State.restartBlocks_frame :
    (s.restartBlocks).now = s.now ∧ (s.restartBlocks).thermal = { s.thermal with frames := [] } ∧ (s.restartBlocks).clock = s.clock ∧
      (s.restartBlocks).model = s.model ∧ (s.restartBlocks).stations = s.stations ∧
      (s.restartBlocks).occupations = s.occupations ∧ (s.restartBlocks).archive = s.archive ∧
      (s.restartBlocks).flash = s.flash ∧ (s.restartBlocks).portA = s.portA ∧ (s.restartBlocks).portB = s.portB ∧
      (s.restartBlocks).startUp = s.startUp ∧ (s.restartBlocks).pending = s.pending ∧
      (s.restartBlocks).incoming = s.incoming := by simp [State.restartBlocks]

@[simp] theorem State.restart_frame (p : Port) :
    (s.restart p).now = s.now ∧ (s.restart p).thermal = { s.thermal with frames := [] } ∧ (s.restart p).clock = s.clock ∧
      (s.restart p).model = s.model ∧ (s.restart p).stations = s.stations ∧
      (s.restart p).occupations = s.occupations ∧ (s.restart p).archive = s.archive ∧ (s.restart p).flash = s.flash ∧
      (s.restart p).pending = s.pending ∧ (s.restart p).incoming = s.incoming := by simp [State.restart]

@[simp] theorem State.discardFrame_frame (p : Port) :
    (s.discardFrame p).now = s.now ∧ (s.discardFrame p).gate = s.gate ∧ (s.discardFrame p).cal = s.cal ∧
      (s.discardFrame p).scan = s.scan ∧ (s.discardFrame p).level = s.level ∧
      (s.discardFrame p).thermal = s.thermal ∧ (s.discardFrame p).clock = s.clock ∧
      (s.discardFrame p).model = s.model ∧ (s.discardFrame p).engine = s.engine ∧
      (s.discardFrame p).stations = s.stations ∧ (s.discardFrame p).occupations = s.occupations ∧
      (s.discardFrame p).archive = s.archive ∧ (s.discardFrame p).flash = s.flash ∧
      (s.discardFrame p).startUp = s.startUp ∧ (s.discardFrame p).pending = s.pending ∧
      (s.discardFrame p).incoming = s.incoming := by simp [State.discardFrame]

end Sys2Proof.Machine
end

