-- ==== Sys2Proof/Laws/Bytes.lean ====
section
/-!
SUPPORT. Fields written and read back, their lengths, and sums of bytes.
-/

namespace Sys2Proof.Machine

@[simp] theorem leNat_length : ∀ w n : Nat, (leNat w n).length = w
  | 0, _ => rfl
  | w + 1, n => by simp [leNat, leNat_length w]

@[simp] theorem leInt_length (w : Nat) (v : Int) : (leInt w v).length = w := by simp [leInt]

@[simp] theorem mark_length (b : Bool) : (mark b).length = 1 := by simp [mark]

theorem opt_length {α : Type} {enc : α → List Byte} {w : Nat} (h : ∀ x, (enc x).length = w) (o : Option α) :
    (opt enc w o).length = 1 + w := by cases o <;> simp [opt, h]

theorem bare_length {α : Type} {enc : α → List Byte} {w : Nat} (h : ∀ x, (enc x).length = w) (o : Option α) :
    (bare enc w o).length = w := by cases o <;> simp [bare, h]

@[simp] theorem u8At_cons_zero (b : Byte) (l : List Byte) : u8At (b :: l) 0 = b.toNat := rfl

@[simp] theorem u8At_cons_succ (b : Byte) (l : List Byte) (i : Nat) : u8At (b :: l) (i + 1) = u8At l i := by
  simp [u8At]

theorem u8At_lt (l : List Byte) (i : Nat) : u8At l i < 256 := (l.getD i 0).isLt

theorem u16At_lt (l : List Byte) (i : Nat) : u16At l i < 65536 := by
  have := u8At_lt l i; have := u8At_lt l (i + 1)
  unfold u16At; omega

theorem u32At_lt (l : List Byte) (i : Nat) : u32At l i < 4294967296 := by
  have := u16At_lt l i; have := u16At_lt l (i + 2)
  unfold u32At; omega

/-- A signed field lies in the signed range. -/
theorem s32At_range (l : List Byte) (i : Nat) : -2147483648 ≤ s32At l i ∧ s32At l i ≤ 2147483647 := by
  have := u32At_lt l i
  unfold s32At signed32; split <;> omega

@[simp] theorem byte_toNat (n : Nat) : (byte n).toNat = n % 256 := by simp [byte]

/-- An 8-bit field at the front of a run of bytes. -/
@[simp] theorem u8At_u8 (n : Nat) (l : List Byte) : u8At (u8 n ++ l) 0 = n % 256 := by simp [leNat]

/-- A 16-bit field at the front of a run of bytes. -/
@[simp] theorem u16At_u16 (n : Nat) (l : List Byte) : u16At (u16 n ++ l) 0 = n % 65536 := by
  simp [leNat, u16At]; omega

/-- A 32-bit field at the front of a run of bytes. -/
@[simp] theorem u32At_u32 (n : Nat) (l : List Byte) : u32At (u32 n ++ l) 0 = n % 4294967296 := by
  simp [leNat, u32At, u16At]; omega

/-- A signed 32-bit field at the front of a run of bytes. -/
theorem s32At_s32 {v : Int} (h : -2147483648 ≤ v ∧ v ≤ 2147483647) (l : List Byte) : s32At (s32 v ++ l) 0 = v := by
  have e : s32At (s32 v ++ l) 0 = signed32 ((v % ((256 ^ 4 : Nat) : Int)).toNat % 4294967296) := by
    show signed32 (u32At (u32 (v % ((256 ^ 4 : Nat) : Int)).toNat ++ l) 0) = _
    rw [u32At_u32]
  rw [e]
  have p : ((256 ^ 4 : Nat) : Int) = 4294967296 := by norm_num
  rw [p]
  unfold signed32
  split <;> omega

theorem byteSum_eq (l : List Byte) : byteSum l = (l.map BitVec.toNat).sum := by
  have key : ∀ (l : List Byte) (a : Nat), l.foldl (fun a b => a + b.toNat) a = a + (l.map BitVec.toNat).sum := by
    intro l
    induction l with
    | nil => intro a; simp
    | cons b l ih => intro a; simp only [List.foldl_cons, List.map_cons, List.sum_cons]; rw [ih]; omega
  simpa [byteSum] using key l 0

@[simp] theorem byteSum_nil : byteSum [] = 0 := rfl

@[simp] theorem byteSum_cons (b : Byte) (l : List Byte) : byteSum (b :: l) = b.toNat + byteSum l := by simp [byteSum_eq]

@[simp] theorem byteSum_append (l m : List Byte) : byteSum (l ++ m) = byteSum l + byteSum m := by simp [byteSum_eq]

end Sys2Proof.Machine
end

