-- ==== Sys2Proof/Laws/Flash.lean ====
section
/-!
SUPPORT. The flash cells: every operation keeps the canonical form, a byte read after a write is the byte written, and
every other byte reads as before.
-/

namespace Sys2Proof.Machine

/-! ### The canonical form -/

theorem cellsOf_mem {c : Host.Cell} : ∀ {vs : List Byte} {a : Nat}, c ∈ cellsOf a vs →
    a ≤ c.1 ∧ c.1 < a + vs.length ∧ c.2 ≠ erasedByte
  | [], _, h => by simp [cellsOf] at h
  | v :: vs, a, h => by
    rw [cellsOf] at h
    split at h
    · have := cellsOf_mem h
      simp only [List.length_cons]; exact ⟨by omega, by omega, this.2.2⟩
    · rename_i hv
      rcases List.mem_cons.mp h with rfl | h
      · simp only [List.length_cons]; exact ⟨le_refl _, by omega, hv⟩
      · have := cellsOf_mem h
        simp only [List.length_cons]; exact ⟨by omega, by omega, this.2.2⟩

theorem cellsOf_rising : ∀ (vs : List Byte) (a : Nat),
    List.Pairwise (fun c d : Host.Cell => c.1 < d.1) (cellsOf a vs)
  | [], _ => List.Pairwise.nil
  | v :: vs, a => by
    rw [cellsOf]
    split
    · exact cellsOf_rising vs (a + 1)
    · exact List.Pairwise.cons (fun d hd => by have := (cellsOf_mem hd).1; simp only; omega) (cellsOf_rising vs (a + 1))

/-- A write of a run of bytes keeps the canonical form. -/
theorem CellsWf.writeRun {m : List Host.Cell} (h : CellsWf m) (a : Nat) (vs : List Byte) : CellsWf (writeRun m a vs) := by
  obtain ⟨hp, hv⟩ := h
  refine ⟨?_, ?_⟩
  · unfold Sys2Proof.Machine.writeRun
    rw [List.append_assoc, List.pairwise_append, List.pairwise_append]
    refine ⟨hp.filter _, ⟨cellsOf_rising vs a, hp.filter _, ?_⟩, ?_⟩
    · intro c hc d hd
      have h1 := cellsOf_mem hc
      have h2 : a + vs.length ≤ d.1 := by simpa using (List.mem_filter.mp hd).2
      omega
    · intro c hc d hd
      have h1 : c.1 < a := by simpa using (List.mem_filter.mp hc).2
      rcases List.mem_append.mp hd with hd | hd
      · have h2 := cellsOf_mem hd; omega
      · have h2 : a + vs.length ≤ d.1 := by simpa using (List.mem_filter.mp hd).2
        omega
  · intro c hc
    unfold Sys2Proof.Machine.writeRun at hc
    rcases List.mem_append.mp hc with hc | hc
    · rcases List.mem_append.mp hc with hc | hc
      · exact hv c (List.mem_filter.mp hc).1
      · exact (cellsOf_mem hc).2.2
    · exact hv c (List.mem_filter.mp hc).1

/-- An erase keeps the canonical form. -/
theorem CellsWf.eraseRun {m : List Host.Cell} (h : CellsWf m) (a n : Nat) : CellsWf (eraseRun m a n) := by
  obtain ⟨hp, hv⟩ := h
  refine ⟨?_, ?_⟩
  · unfold Sys2Proof.Machine.eraseRun
    rw [List.pairwise_append]
    refine ⟨hp.filter _, hp.filter _, ?_⟩
    intro c hc d hd
    have h1 : c.1 < a := by simpa using (List.mem_filter.mp hc).2
    have h2 : a + n ≤ d.1 := by simpa using (List.mem_filter.mp hd).2
    omega
  · intro c hc
    unfold Sys2Proof.Machine.eraseRun at hc
    rcases List.mem_append.mp hc with hc | hc <;> exact hv c (List.mem_filter.mp hc).1

/-- The start of a page program keeps the canonical form. -/
theorem Flash.beginProgram_wf {f : Flash} (h : CellsWf f.cells) (p : Nat) (r : StagedRecord) :
    CellsWf (f.beginProgram p r).cells :=
  (h.eraseRun ..).writeRun ..

/-- A committed page program keeps the canonical form. -/
theorem Flash.commit_wf {f : Flash} (h : CellsWf f.cells) (p : Nat) (r : StagedRecord) : CellsWf (f.commit p r).cells :=
  CellsWf.writeRun h _ _

/-- The reset state's flash has the canonical form. -/
theorem State.reset_cellsWf : CellsWf State.reset.flash.cells := by
  simp [CellsWf, State.reset, State.afterReset]

/-! ### Reading one byte -/

theorem readCell_not_mem {b : Nat} : ∀ {m : List Host.Cell}, (∀ c ∈ m, c.1 ≠ b) → readCell m b = erasedByte
  | [], _ => rfl
  | (a, v) :: m, h => by
    have h1 : a ≠ b := h (a, v) (by simp)
    rw [readCell, if_neg h1]
    exact readCell_not_mem fun c hc => h c (List.mem_cons_of_mem _ hc)

theorem readCell_append_left {b : Nat} {n : List Host.Cell} : ∀ {m : List Host.Cell}, (∀ c ∈ m, c.1 ≠ b) →
    readCell (m ++ n) b = readCell n b
  | [], _ => rfl
  | (a, v) :: m, h => by
    have h1 : a ≠ b := h (a, v) (by simp)
    rw [List.cons_append, readCell, if_neg h1]
    exact readCell_append_left fun c hc => h c (List.mem_cons_of_mem _ hc)

theorem readCell_append_right {b : Nat} {n : List Host.Cell} (hn : ∀ c ∈ n, c.1 ≠ b) : ∀ {m : List Host.Cell},
    readCell (m ++ n) b = readCell m b
  | [] => readCell_not_mem hn
  | (a, v) :: m => by
    rw [List.cons_append, readCell, readCell, readCell_append_right hn]

theorem readCell_filter {b : Nat} {p : Host.Cell → Bool} (hp : ∀ v, p (b, v) = true) : ∀ {m : List Host.Cell},
    readCell (m.filter p) b = readCell m b
  | [] => rfl
  | (a, v) :: m => by
    by_cases h : a = b
    · subst h
      rw [List.filter_cons, if_pos (hp v), readCell, readCell, if_pos rfl, if_pos rfl]
    · rw [List.filter_cons]
      split
      · rw [readCell, readCell, if_neg h, if_neg h, readCell_filter hp]
      · rw [readCell, if_neg h, readCell_filter hp]

theorem readCell_cellsOf : ∀ {vs : List Byte} {a i : Nat}, i < vs.length → readCell (cellsOf a vs) (a + i) = vs.getD i erasedByte
  | [], _, _, h => by simp at h
  | v :: vs, a, 0, _ => by
    rw [cellsOf]
    split
    · rename_i hv
      rw [readCell_not_mem fun c hc => by have := (cellsOf_mem hc).1; omega]
      simp [hv]
    · simp [readCell]
  | v :: vs, a, i + 1, h => by
    have hi : i < vs.length := by simpa using h
    have e : a + (i + 1) = (a + 1) + i := by omega
    rw [cellsOf, e]
    split
    · rw [readCell_cellsOf hi]; simp
    · rw [readCell, if_neg (by omega), readCell_cellsOf hi]; simp

/-- Inside the run, the byte written is read back. -/
theorem readCell_writeRun_inside (m : List Host.Cell) {a i : Nat} {vs : List Byte} (h : i < vs.length) :
    readCell (writeRun m a vs) (a + i) = vs.getD i erasedByte := by
  unfold writeRun
  rw [readCell_append_right, readCell_append_left, readCell_cellsOf h]
  · intro c hc
    have : c.1 < a := by simpa using (List.mem_filter.mp hc).2
    omega
  · intro c hc
    have : a + vs.length ≤ c.1 := by simpa using (List.mem_filter.mp hc).2
    omega

/-- Outside the run, every byte reads as before. -/
theorem readCell_writeRun_outside (m : List Host.Cell) {a b : Nat} {vs : List Byte} (h : b < a ∨ a + vs.length ≤ b) :
    readCell (writeRun m a vs) b = readCell m b := by
  unfold writeRun
  rcases h with h | h
  · rw [List.append_assoc, readCell_append_right, readCell_filter (fun v => by simpa using h)]
    intro c hc
    rcases List.mem_append.mp hc with hc | hc
    · have := (cellsOf_mem hc).1; omega
    · have : a + vs.length ≤ c.1 := by simpa using (List.mem_filter.mp hc).2
      omega
  · rw [readCell_append_left, readCell_filter (fun v => by simpa using h)]
    intro c hc
    rcases List.mem_append.mp hc with hc | hc
    · have : c.1 < a := by simpa using (List.mem_filter.mp hc).2
      omega
    · have := (cellsOf_mem hc).2.1; omega

/-- Inside an erased range, every byte reads as erased. -/
theorem readCell_eraseRun_inside (m : List Host.Cell) {a b n : Nat} (h : a ≤ b ∧ b < a + n) :
    readCell (eraseRun m a n) b = erasedByte := by
  apply readCell_not_mem
  intro c hc
  unfold eraseRun at hc
  rcases List.mem_append.mp hc with hc | hc
  · have : c.1 < a := by simpa using (List.mem_filter.mp hc).2
    omega
  · have : a + n ≤ c.1 := by simpa using (List.mem_filter.mp hc).2
    omega

/-- Outside an erased range, every byte reads as before. -/
theorem readCell_eraseRun_outside (m : List Host.Cell) {a b n : Nat} (h : b < a ∨ a + n ≤ b) :
    readCell (eraseRun m a n) b = readCell m b := by
  unfold eraseRun
  rcases h with h | h
  · rw [readCell_append_right, readCell_filter (fun v => by simpa using h)]
    intro c hc
    have : a + n ≤ c.1 := by simpa using (List.mem_filter.mp hc).2
    omega
  · rw [readCell_append_left, readCell_filter (fun v => by simpa using h)]
    intro c hc
    have : c.1 < a := by simpa using (List.mem_filter.mp hc).2
    omega

/-! ### Reading a run of bytes -/

theorem fillRun_eq : ∀ (n a : Nat) (m : List Host.Cell), List.Pairwise (fun c d : Host.Cell => c.1 < d.1) m →
    (∀ c ∈ m, a ≤ c.1) → fillRun n a m = (List.range n).map fun i => readCell m (a + i)
  | 0, _, _, _, _ => rfl
  | n + 1, a, [], _, _ => by
    rw [fillRun, fillRun_eq n (a + 1) [] List.Pairwise.nil (by simp), List.range_succ_eq_map]
    simp [readCell, Function.comp_def]
  | n + 1, a, (b, v) :: m, hp, ha => by
    have hb : a ≤ b := ha (b, v) (by simp)
    have hm : ∀ c ∈ m, b < c.1 := fun c hc => (List.pairwise_cons.mp hp).1 c hc
    rw [fillRun, List.range_succ_eq_map]
    split
    · rename_i h
      subst h
      rw [fillRun_eq n (b + 1) m (List.pairwise_cons.mp hp).2 (fun c hc => by have := hm c hc; omega)]
      simp only [List.map_cons, List.map_map, readCell, Nat.add_zero, if_pos]
      refine congrArg _ (List.map_congr_left fun i _ => ?_)
      simp only [Function.comp_apply]
      rw [if_neg (by omega)]
      congr 1; omega
    · rename_i h
      rw [fillRun_eq n (a + 1) ((b, v) :: m) hp (fun c hc => by
        rcases List.mem_cons.mp hc with rfl | hc
        · simp only; omega
        · have := hm c hc; omega)]
      simp only [List.map_cons, List.map_map]
      have h0 : readCell ((b, v) :: m) (a + 0) = erasedByte := by
        apply readCell_not_mem
        intro c hc
        rcases List.mem_cons.mp hc with rfl | hc
        · simp only; omega
        · have := hm c hc; omega
      rw [h0]
      refine congrArg _ (List.map_congr_left fun i _ => ?_)
      simp only [Function.comp_apply]
      congr 1; omega

/-- A run of bytes is its bytes read one by one. -/
theorem readRun_eq {m : List Host.Cell} (h : CellsWf m) (a n : Nat) :
    readRun m a n = (List.range n).map fun i => readCell m (a + i) := by
  unfold readRun
  rw [fillRun_eq n a _ (h.1.filter _) (fun c hc => by simpa using (List.mem_filter.mp hc).2)]
  refine List.map_congr_left fun i _ => ?_
  exact readCell_filter (fun v => by simp)

theorem readRun_length {m : List Host.Cell} (h : CellsWf m) (a n : Nat) : (readRun m a n).length = n := by
  rw [readRun_eq h]; simp

end Sys2Proof.Machine
end

