-- ==== Sys2Proof/Laws/Numbers.lean ====
section
/-!
SUPPORT. Rounding to nearest with ties away from zero, clamping, and held counts.
-/

namespace Sys2Proof.Machine

theorem roundDiv_natCast (n d : Nat) : roundDiv (n : Int) d = (((2 * n + d) / (2 * d) : Nat) : Int) := by
  simp [roundDiv]

/-- Positive and negative values round alike. -/
theorem roundDiv_neg (n : Int) (d : Nat) : roundDiv (-n) d = -roundDiv n d := by
  unfold roundDiv
  rcases lt_trichotomy n 0 with h | h | h
  · rw [if_pos (by omega), if_neg (by omega)]; simp
  · subst h
    rcases Nat.eq_zero_or_pos d with hd | hd
    · simp [hd]
    · have h0 : d / (2 * d) = 0 := Nat.div_eq_of_lt (by omega)
      simp [h0]
  · rw [if_neg (by omega), if_pos (by omega)]; simp

theorem roundDiv_nonneg {n : Int} (d : Nat) (h : 0 ≤ n) : 0 ≤ roundDiv n d := by
  rw [roundDiv, if_pos h]; exact Int.natCast_nonneg _

/-- The rounded quotient is at most half a unit from the exact one, on either side. -/
theorem roundDiv_near (n : Int) {d : Nat} (hd : 0 < d) :
    2 * (n - d * roundDiv n d) ≤ d ∧ -(d : Int) ≤ 2 * (n - d * roundDiv n d) := by
  have key : ∀ m : Nat, 2 * ((m : Int) - d * roundDiv m d) ≤ d ∧ -(d : Int) ≤ 2 * ((m : Int) - d * roundDiv m d) := by
    intro m
    rw [roundDiv_natCast]
    have h1 := Nat.div_mul_le_self (2 * m + d) (2 * d)
    have h2 := Nat.lt_div_mul_add (a := 2 * m + d) (b := 2 * d) (by omega)
    generalize (2 * m + d) / (2 * d) = q at h1 h2
    have e : q * (2 * d) = 2 * (d * q) := by ring
    rw [e] at h1 h2
    have e2 : ((d : Int) * (q : Int)) = ((d * q : Nat) : Int) := by push_cast; ring
    rw [e2]
    omega
  rcases Int.eq_nat_or_neg n with ⟨m, rfl | rfl⟩
  · exact key m
  · have h := key m
    rw [roundDiv_neg]
    have e : (-(m : Int) - d * -roundDiv m d) = -((m : Int) - d * roundDiv m d) := by ring
    rw [e]; omega

/-- A quotient halfway between two integers rounds away from zero. -/
theorem roundDiv_tie (n : Int) {d : Nat} (hd : 0 < d) (h : 2 * (n - d * roundDiv n d).natAbs = d) :
    n.natAbs < (d * roundDiv n d).natAbs := by
  have key : ∀ m : Nat, 2 * ((m : Int) - d * roundDiv m d).natAbs = d → m < ((d : Int) * roundDiv m d).natAbs := by
    intro m hm
    rw [roundDiv_natCast] at hm ⊢
    have h2 := Nat.lt_div_mul_add (a := 2 * m + d) (b := 2 * d) (by omega)
    have h1 := Nat.div_mul_le_self (2 * m + d) (2 * d)
    generalize (2 * m + d) / (2 * d) = q at h1 h2 hm ⊢
    have e : q * (2 * d) = 2 * (d * q) := by ring
    rw [e] at h1 h2
    have e2 : ((d : Int) * (q : Int)) = ((d * q : Nat) : Int) := by push_cast; ring
    rw [e2] at hm ⊢
    omega
  rcases Int.eq_nat_or_neg n with ⟨m, rfl | rfl⟩
  · simpa using key m h
  · rw [roundDiv_neg] at h ⊢
    have e : (-(m : Int) - d * -roundDiv m d) = -((m : Int) - d * roundDiv m d) := by ring
    rw [e, Int.natAbs_neg] at h
    have := key m h
    simpa using this

theorem clampInt_within {lo hi : Int} (h : lo ≤ hi) (v : Int) : lo ≤ clampInt lo hi v ∧ clampInt lo hi v ≤ hi := by
  unfold clampInt; split
  · omega
  · split <;> omega

theorem clampInt_of_within {lo hi v : Int} (h1 : lo ≤ v) (h2 : v ≤ hi) : clampInt lo hi v = v := by
  unfold clampInt; rw [if_neg (by omega), if_neg (by omega)]

theorem clampNat_within {lo hi : Nat} (h : lo ≤ hi) (v : Nat) : lo ≤ clampNat lo hi v ∧ clampNat lo hi v ≤ hi := by
  unfold clampNat; split
  · omega
  · split <;> omega

theorem clampNat_of_within {lo hi v : Nat} (h1 : lo ≤ v) (h2 : v ≤ hi) : clampNat lo hi v = v := by
  unfold clampNat; rw [if_neg (by omega), if_neg (by omega)]

theorem heldSucc_le {n : Nat} (h : n ≤ 255) : heldSucc n ≤ 255 := by unfold heldSucc; split <;> omega

theorem heldSucc_pos (n : Nat) : 0 < heldSucc n := by unfold heldSucc; split <;> omega

end Sys2Proof.Machine
end

