-- ==== Sys2Proof/Laws/Ports.lean ====
section
/-!
SUPPORT. How requests are served, what one byte time can do, and what the operations on a port do to its flags, pulses and
line.
-/

namespace Sys2Proof.Machine

/-! ### Serving -/

/-- Everything a request can do: it is ignored, answered BUSY with cause STARTING, or answered by its rule. -/
theorem State.serve_cases (s : State) (p : Port) (tag : Byte) (rule : State → Reply) :
    ((s.port p).response.isSome = true ∧ s.serve p tag rule = s) ∨
    ((s.port p).response = none ∧ s.startUp.phase ≠ .ready ∧
      s.serve p tag rule = s.answer p tag .busy (u8 BusyCause.starting.code ++ u8 s.startUp.phase.code)) ∨
    (s.takes p ∧ s.serve p tag rule = (rule s).state.answer p tag (rule s).status (rule s).payload) := by
  unfold State.serve State.serveAlways State.answering
  cases h : (s.port p).response with
  | some x => exact .inl ⟨rfl, by simp⟩
  | none =>
    by_cases hr : s.startUp.phase = .ready
    · exact .inr (.inr ⟨⟨h, hr⟩, by simp [hr]⟩)
    · exact .inr (.inl ⟨rfl, hr, by simp [hr, State.starting]⟩)

/-- Everything a frame taken in any phase can do: it is ignored, or answered by its rule. -/
theorem State.serveAlways_cases (s : State) (p : Port) (tag : Byte) (rule : State → Reply) :
    ((s.port p).response.isSome = true ∧ s.serveAlways p tag rule = s) ∨
    ((s.port p).response = none ∧
      s.serveAlways p tag rule = (rule s).state.answer p tag (rule s).status (rule s).payload) := by
  unfold State.serveAlways State.answering
  cases h : (s.port p).response with
  | some x => exact .inl ⟨rfl, by simp⟩
  | none => exact .inr ⟨rfl, by simp⟩

/-- A request taken while the part is ready is answered by its rule. -/
theorem State.serve_taken {s : State} {p : Port} (h : s.takes p) (tag : Byte) (rule : State → Reply) :
    s.serve p tag rule = (rule s).state.answer p tag (rule s).status (rule s).payload := by
  simp [State.serve, State.serveAlways, State.answering, h.1, h.2]

theorem State.serveAlways_taken {s : State} {p : Port} (h : (s.port p).response = none) (tag : Byte)
    (rule : State → Reply) :
    s.serveAlways p tag rule = (rule s).state.answer p tag (rule s).status (rule s).payload := by
  simp [State.serveAlways, State.answering, h]

@[simp] theorem State.sized_length (s : State) {payload : List Byte} {n : Nat} (h : payload.length = n) (r : Reply) :
    s.sized payload n r = r := by simp [State.sized, h]

/-- The length check either lets the rule through or refuses with ARGS and leaves the state. -/
theorem State.sized_cases (s : State) (payload : List Byte) (n : Nat) (r : Reply) :
    (payload.length = n ∧ s.sized payload n r = r) ∨ (payload.length ≠ n ∧ s.sized payload n r = ⟨.args, [], s⟩) := by
  unfold State.sized State.refuse
  by_cases h : payload.length = n
  · exact .inl ⟨h, if_pos h⟩
  · exact .inr ⟨h, if_neg h⟩

@[simp] theorem State.refuse_state (s : State) (st : Status) : (s.refuse st).state = s := rfl
@[simp] theorem State.refuse_status (s : State) (st : Status) : (s.refuse st).status = st := rfl
@[simp] theorem State.refuse_payload (s : State) (st : Status) : (s.refuse st).payload = [] := rfl
@[simp] theorem State.busy_state (s : State) (c : BusyCause) : (s.busy c).state = s := rfl
@[simp] theorem State.busy_status (s : State) (c : BusyCause) : (s.busy c).status = .busy := rfl
@[simp] theorem State.busy_payload (s : State) (c : BusyCause) : (s.busy c).payload = u8 c.code := rfl

/-! ### One byte time -/

/-- A port after a byte time: what its flags, its line and its response were, they are. -/
structure PortState.SameEvents (q r : PortState) : Prop where
  response : q.response = r.response
  flags : q.flags = r.flags
  config : q.config = r.config
  pulses : q.pulses = r.pulses
  atn : q.atn = r.atn
  pulsesGiven : q.pulsesGiven = r.pulsesGiven

theorem PortState.SameEvents.refl (q : PortState) : q.SameEvents q := ⟨rfl, rfl, rfl, rfl, rfl, rfl⟩

/-- The receiver stands within one frame after every byte. -/
theorem receiveFrame_receivedAfter (p : Port) (l : List Byte) : receiveFrame p (receivedAfter p l) = .incomplete := by
  unfold receivedAfter
  split
  · assumption
  · rfl

/-- A byte of a response sent moves the place in it and the byte driven, and perhaps adds the end of the response to the
waiting commands. -/
theorem State.sendByte_cases (s : State) (p : Port) (l : List Byte) : ∃ (q : PortState) (cs : List Instr),
    s.sendByte p l = { s.setPort p q with pending := s.pending ++ cs } ∧ q.SameEvents (s.port p) := by
  refine ⟨{ s.port p with sent := (s.port p).sent + 1, driven := some (l.getD (s.port p).sent fillByte) },
    if l.length ≤ (s.port p).sent + 1 then [.responseSent p] else [], ?_, rfl, rfl, rfl, rfl, rfl, rfl⟩
  unfold State.sendByte
  cases p <;> dsimp only <;> split <;> simp

/-- A byte received moves the receiver and the byte driven, and perhaps adds the command it completes to those waiting. -/
theorem State.receiveByte_cases (s : State) (p : Port) (v : Byte) : ∃ (q : PortState) (cs : List Instr),
    s.receiveByte p v = { s.setPort p q with pending := s.pending ++ cs } ∧ q.SameEvents (s.port p) := by
  refine ⟨{ s.port p with
      received := receivedAfter p ((s.port p).received ++ [v])
      driven := match p with | .a => some fillByte | .b => (s.port p).driven },
    commandsOf p ((s.port p).received ++ [v]), ?_, rfl, rfl, rfl, rfl, rfl, rfl⟩
  cases p <;> rfl

/-- Everything a port's byte time can do: it moves that port's receiver and the place in its response, takes a byte on its
way, and adds to the end of the waiting commands. -/
theorem State.portByteTime_cases (s : State) (p : Port) : ∃ (q : PortState) (i : Incoming) (cs : List Instr),
    s.portByteTime p = { s.setPort p q with incoming := i, pending := s.pending ++ cs } ∧ q.SameEvents (s.port p) := by
  have still : ∃ (q : PortState) (i : Incoming) (cs : List Instr),
      s = { s.setPort p q with incoming := i, pending := s.pending ++ cs } ∧ q.SameEvents (s.port p) :=
    ⟨s.port p, s.incoming, [], by simp, .refl _⟩
  have taken (t u : State) (i : Incoming) (ht : t = { s with incoming := i })
      (hu : ∃ (q : PortState) (cs : List Instr), u = { t.setPort p q with pending := t.pending ++ cs } ∧
        q.SameEvents (t.port p)) : ∃ (q : PortState) (i : Incoming) (cs : List Instr),
      u = { s.setPort p q with incoming := i, pending := s.pending ++ cs } ∧ q.SameEvents (s.port p) := by
    obtain ⟨q, cs, rfl, e⟩ := hu
    subst ht
    cases p <;> exact ⟨q, i, cs, rfl, e⟩
  unfold State.portByteTime
  dsimp only
  split
  · exact still
  · exact taken _ _ _ rfl (State.receiveByte_cases ..)
  · exact taken _ _ _ rfl (State.sendByte_cases ..)
  · cases p
    · exact still
    · exact taken _ _ _ rfl (State.sendByte_cases ..)

/-- Everything a byte time of both ports can do. -/
theorem State.byteTime_cases (s : State) : ∃ (a b : PortState) (i : Incoming) (cs : List Instr),
    s.byteTime = { s with portA := a, portB := b, incoming := i, pending := s.pending ++ cs } ∧
      a.SameEvents s.portA ∧ b.SameEvents s.portB := by
  obtain ⟨a, i, cs, ha, ea⟩ := s.portByteTime_cases .a
  obtain ⟨b, j, ds, hb, eb⟩ := (s.portByteTime .a).portByteTime_cases .b
  refine ⟨a, b, j, cs ++ ds, ?_, ea, ?_⟩
  · rw [State.byteTime, hb, ha]; simp
  · rwa [ha] at eb

/-- Everything a step can do: it runs the command at the front of the queue, or a byte time passes. -/
theorem step_cases {s : State} {o : Host.Outcome State Fault Refusal} (h : step s = o) :
    (s.pending = [] ∧ o = .next s.byteTime) ∨
      ∃ c rest, s.pending = c :: rest ∧ o = exec c { s with pending := rest } := by
  unfold step at h
  split at h
  · exact .inl ⟨‹_›, h.symm⟩
  · exact .inr ⟨_, _, ‹_›, h.symm⟩

/-! ### Flags -/

@[simp] theorem PerFlag.get_set_same {α : Type} (x : PerFlag α) (f : EventFlag) (v : α) : (x.set f v).get f = v := by
  cases f <;> rfl

theorem PerFlag.get_set_other {α : Type} (x : PerFlag α) {f g : EventFlag} (v : α) (h : g ≠ f) :
    (x.set f v).get g = x.get g := by
  cases f <;> cases g <;> first | rfl | exact absurd rfl h

@[simp] theorem PerFlag.get_map {α β : Type} (x : PerFlag α) (g : α → β) (f : EventFlag) : (x.map g).get f = g (x.get f) := by
  cases f <;> rfl

@[simp] theorem PerFlag.get_all {α : Type} (v : α) (f : EventFlag) : (PerFlag.all v).get f = v := by cases f <;> rfl

theorem PerFlag.ext_get {α : Type} {x y : PerFlag α} (h : ∀ f, x.get f = y.get f) : x = y := by
  cases x; cases y
  simp only [PerFlag.mk.injEq]
  exact ⟨h .rdon, h .levl, h .mode, h .clck, h .arch, h .peer, h .thrm, h .rset⟩

/-- A port is raised exactly when some enabled flag has a count above zero. -/
theorem PortState.raised_iff (q : PortState) :
    q.raised = true ↔ ∃ f, q.config.mask.get f = true ∧ 0 < (q.flags.get f).count := by
  constructor
  · intro h
    simp only [PortState.raised, PerFlag.toList, List.zip_cons_cons, List.zip_nil_right, List.any_cons, List.any_nil,
      Bool.or_false, Bool.or_eq_true, Bool.and_eq_true, decide_eq_true_eq] at h
    rcases h with h | h | h | h | h | h | h | h
    exacts [⟨.rdon, h⟩, ⟨.levl, h⟩, ⟨.mode, h⟩, ⟨.clck, h⟩, ⟨.arch, h⟩, ⟨.peer, h⟩, ⟨.thrm, h⟩, ⟨.rset, h⟩]
  · rintro ⟨f, h⟩
    simp only [PortState.raised, PerFlag.toList, List.zip_cons_cons, List.zip_nil_right, List.any_cons, List.any_nil,
      Bool.or_false, Bool.or_eq_true, Bool.and_eq_true, decide_eq_true_eq]
    cases f <;> simp_all [PerFlag.get]

/-! ### The line settled -/

@[simp] theorem PortState.settle_flags (q : PortState) : q.settle.flags = q.flags := rfl
@[simp] theorem PortState.settle_config (q : PortState) : q.settle.config = q.config := rfl
@[simp] theorem PortState.settle_pulses (q : PortState) : q.settle.pulses = q.pulses := rfl
@[simp] theorem PortState.settle_pulsesGiven (q : PortState) : q.settle.pulsesGiven = q.pulsesGiven := rfl
@[simp] theorem PortState.settle_received (q : PortState) : q.settle.received = q.received := rfl
@[simp] theorem PortState.settle_response (q : PortState) : q.settle.response = q.response := rfl
@[simp] theorem PortState.settle_sent (q : PortState) : q.settle.sent = q.sent := rfl
@[simp] theorem PortState.settle_driven (q : PortState) : q.settle.driven = q.driven := rfl

/-- A port whose line has been settled has the line its flags, mask and mode require. -/
theorem PortState.settle_follows (q : PortState) : q.settle.LineFollows := by
  unfold PortState.LineFollows PortState.settle
  cases h : q.config.line
  · simpa using PortState.raised_iff q
  · simp

/-! ### What a posting does -/

@[simp] theorem PortState.post_config (q : PortState) (d : Detail) : (q.post d).config = q.config := rfl
@[simp] theorem PortState.post_received (q : PortState) (d : Detail) : (q.post d).received = q.received := rfl
@[simp] theorem PortState.post_response (q : PortState) (d : Detail) : (q.post d).response = q.response := rfl
@[simp] theorem PortState.post_sent (q : PortState) (d : Detail) : (q.post d).sent = q.sent := rfl
@[simp] theorem PortState.post_driven (q : PortState) (d : Detail) : (q.post d).driven = q.driven := rfl
@[simp] theorem PortState.post_pulsesGiven (q : PortState) (d : Detail) : (q.post d).pulsesGiven = q.pulsesGiven := rfl

@[simp] theorem PortState.post_flags (q : PortState) (d : Detail) :
    (q.post d).flags = q.flags.set d.flag ⟨heldSucc (q.flags.get d.flag).count, some d⟩ := rfl

theorem PortState.post_follows (q : PortState) (d : Detail) : (q.post d).LineFollows := PortState.settle_follows _

theorem PortState.clearCounts_follows (q : PortState) : q.clearCounts.LineFollows := PortState.settle_follows _

theorem PortState.acknowledge_follows (q : PortState) (f : EventFlag) (n : Nat) : (q.acknowledge f n).LineFollows :=
  PortState.settle_follows _

theorem PortState.configure_follows (q : PortState) (c : PortConfig) : (q.configure c).LineFollows :=
  PortState.settle_follows _

theorem PortState.restarted_follows (q : PortState) : q.restarted.LineFollows := PortState.settle_follows _

theorem PortState.givePulse_follows {q : PortState} (h : q.LineFollows) : q.givePulse.LineFollows := by
  unfold PortState.givePulse
  split
  · exact h
  · exact h

end Sys2Proof.Machine
end

