-- ==== Sys2Proof/Tests/Slice0.lean ====
section
/-!
SUPPORT. Tests. The expected values are the manual's own worked examples, each named in its theorem's comment, or hand
working from the rules; then a witness for the hypotheses of every statement in
Sys2Proof/Certificates/Slice0/Obligations.lean that has some.
-/

namespace Sys2Proof.Tests

open Sys2Proof.Machine

-- One theorem is checked after another: the kernel's evaluations below would otherwise wait on threads of their own.
set_option Elab.async false

/-- What a field of the next state is, where there is one. -/
def after {α : Type} (c : Instr) (s : State) (f : State → α) : Option α :=
  match exec c s with
  | .next t => some (f t)
  | _ => none

/-- The status letters and the payload of a port's response. -/
def answered (p : Port) (t : State) : Option (List Byte × List Byte) :=
  (t.port p).response.map fun l => ((l.drop 2).take 4, (l.drop 8).dropLast)

/-! ### Small states -/

/-- A part whose start-up has ended, in SETUP with the defaults. -/
def ready : State :=
  { State.reset with
    startUp := ⟨.ready, .power, .none, none⟩
    archive := { Archive.reset with state := .ready, activity := .idle } }

/-- The CALI slots of 6.2.1. -/
def slots : List CaliSlot :=
  [⟨true, 60000000, 70000000, 700000000, -7012352⟩, ⟨true, 68000000, 76000000, -156000000, -6946816⟩,
   ⟨false, 40000000, 50000000, 1770000000, -7077888⟩, .defaults, .defaults,
   ⟨true, 80000000, 84000000, -1400000000, -6881280⟩]

/-- The model of the gate of 7.4.1, with the tide table of 5.2.1 and the thermal coefficients of 3.6.1. -/
def groups : Groups :=
  { Groups.defaults with
    cali := Groups.defaults.cali.set 0 ⟨true, 60000000, 70000000, 700000000, -7012352⟩
    tilt := { TiltGroup.defaults with debounce := 3, motionLimit := 5000 }
    thrm := { ThrmGroup.defaults with setPoint := 450000, kT := -13107, kG := 32768 }
    tide := (Groups.defaults.tide.set 1 ⟨true, 2, 24589312, 3949180096, 8000⟩).set 2 ⟨true, 1, 23000000, 1824046148, 3000⟩
    tidr := ⟨0, 700000000⟩
    gate := { GateGroup.defaults with rawLow := 50000000, rawHigh := 90000000, outlierLimit := 1000, g0 := 979000 } }

/-- A frame in force. -/
def frame : Frame := ⟨1, 10000, -3000, 450250, false, false, false⟩

/-- Station 1207 with occupation 318 open at it. -/
def survey : State :=
  { ready with
    now := 60000000
    scan := { Scanner.reset with latest := some frame, arrivalDue := some 60000000, frameCount := 1 }
    level := { LevelMonitor.reset with state := .level, debounce := 3, tilts := some ⟨10000, -3000, 109000000⟩, taken := true }
    clock := { Clock.reset with seconds := 700003600, time := .set, discipline := .pulse, lastTick := 50000000 }
    model := ⟨groups, .survey, 1, false⟩
    stations := [⟨1207, 0, none, 1, some 318⟩]
    occupations := ⟨[⟨318, 1207, .isOpen, some 700003000, none, []⟩], 319, []⟩ }

/-- A reading at occupation 318 with its gate outstanding. -/
def reading : Reading :=
  { ticket := 40, port := .a, occupation := 318, n := 4, m := 2, r := 2, k := 14, station := 1207, generation := 1,
    state := .gating (.outstanding 1), attempts := 0, accepted := 0, drops := .zero, firstGateArmed := true, sums := .zero,
    flags := ⟨false, false, false, false⟩ }

/-- The sensor gate counting for that reading. -/
def counting : SensorGate :=
  { SensorGate.reset with
    state := .counting, armer := some .engine, k := 14, edgeCount := 16383, refCount := 16000123
    start := some ⟨700003599, 13107, .set, .pulse⟩, limitDue := some 60000000, armCount := 1 }

/-- The reading in flight, and one behind it in the queue. -/
def gating : State :=
  { survey with
    gate := counting
    engine := { Engine.reset with queue := [⟨41, .b, 318, 4, 2, 2, 14⟩], reading := some reading, nextTicket := 42 } }

/-- The gate of 7.4.1 as its report is evaluated. -/
def heldGate : HeldGate :=
  { report := ⟨1, 14, 16000123, 64000492, ⟨700003599, 13107, .set, .pulse⟩, ⟨700003600, 52429, .set, .pulse⟩, false⟩
    tx := 10000, ty := -3000, spreadX := 90, spreadY := 90, thermalFrame := 1 }

/-- The thermal report of 7.4.1. -/
def report : ThermalReport := ⟨1, 450250, false, some 450210, .inside, false⟩

/-- A result of one gate. -/
def result : ReadingResult :=
  { ticket := 40, occupation := 318, station := 1207, outcome := .done, value := 271942860, meanCal := 271947356,
    meanTilt := 534, meanThermal := -30, meanTide := -5000, spread := 0, accepted := 1, attempts := 1, drops := .zero,
    meanTx := 10000, meanTy := -3000, meanTemp := 450250, tideTime := 700003600, n := 1, m := 1, k := 14, generation := 1,
    flags := ⟨false, false, false, false⟩ }

/-- A staged record. -/
def record (n : Nat) : StagedRecord := ⟨n, 1207, 0, none, some 700003000, 700004000, [result]⟩

/-- The archive of 9.4.1: 318 being programmed at page 1,842, 320 loaded behind it. -/
def programming : State :=
  { survey with
    archive := { state := .ready, writePage := 1842, failureCount := 0, buffer0 := .programming (record 318),
                 buffer1 := .loaded (record 320), loadOrder := [.b1], activity := .program, cursorA := 1842, cursorB := 4095 }
    occupations := ⟨[⟨318, 1207, .staged, some 700003000, some 700004000, [result]⟩,
      ⟨320, 1207, .staged, some 700003000, some 700004000, [result]⟩], 321, []⟩
    stations := [⟨1207, 0, none, 1, none⟩] }

/-- A level frame delivered to the monitor in a state. -/
def levelAt (st : LevelState) (debounce : Nat) (x y : Int) (sat : Bool) : State :=
  { survey with level := { LevelMonitor.reset with
      state := st, debounce := debounce, frames := [⟨2, x, y, 450250, sat, false, false⟩] } }

/-- A temperature frame delivered to a tracker with the parameters of 3.3.1. -/
def thermalAt (temp : Int) (sat : Bool) (baseline : Option Int) (bucket : Int) (low : Nat) (w : WindowState) : State :=
  { survey with
    model := { survey.model with groups := { groups with thrm :=
      { ThrmGroup.defaults with setPoint := 450000, window := 100, bucketLimit := 100, step := 5, lowFrames := 3 } } }
    thermal := ⟨none, false, baseline, bucket, low, w, [⟨2, 0, 0, temp, false, false, sat⟩]⟩ }

/-! ### Rounding, conversion and corrections -/

/-- 2.1.1: the four conversions, the last one clamped. -/
theorem test_tilt_conversions :
    [convertTilt 12 98304 6679, convertTilt 12 98304 (-1988), convertTilt (-40) (-65536) 2960,
      convertTilt (-40) (-65536) (-8388608)] = [10001, -3000, -3000, 1000000] := by decide

/-- 2.5.1: the three tilt corrections. -/
theorem test_tilt_corrections :
    [tiltCorrection 979000 10000 (-3000), tiltCorrection 979000 20000 0, tiltCorrection 979000 22000 0] =
      [534, 1958, 2369] := by decide

/-- 3.6.1: the three thermal corrections. -/
theorem test_thermal_corrections :
    [thermalCorrection groups.thrm 450250 450210, thermalCorrection groups.thrm 450120 450005,
      thermalCorrection groups.thrm 449952 449952] = [-30, 34, 10] := by decide

/-- R67: the values the rule gives beside the quarter turns. -/
theorem test_device_cosine :
    [deviceCosine 1073741823, deviceCosine 1073741822, deviceCosine 1073741825, deviceCosine 2147483648,
      deviceCosine 3221225472, deviceCosine 2684354560] = [2, 3, -2, -1073741824, 0, -759250125] := by decide +kernel

/-- 5.2.1: the phases, the terms and the correction of the worked gate. -/
theorem test_tide_of_the_worked_gate :
    let v := synthesize groups 700003600 0 none
    v.terms = [⟨1, 2, 0, 1073741824, 8000⟩, ⟨2, 1, 2147483648, -1073741824, -3000⟩] ∧ v.correction = -5000 := by
  decide +kernel

/-- 5.4.1: floors of negative quotients before the epoch. -/
theorem test_tide_before_the_epoch :
    let g := { groups with tide := (((Groups.defaults.tide.set 0 ⟨true, 2, 67108864, 1480851456, 10000⟩).set 1
      ⟨true, 0, 1000, 1073755891, 4000⟩).set 2 ⟨true, 1, 12345678, 2321142971, 2500⟩).set 3 ⟨false, 2, 24589312, 0, 50000⟩ }
    let v := synthesize g 699996399 0 none
    v.terms.map (·.phase) = [536870912, 1073741824, 2147483648] ∧ v.terms.map (·.term) = [7071, 0, -2500] ∧
      v.correction = -4571 := by decide +kernel

/-- 5.4.2: the station 45 degrees east, with its factor. -/
theorem test_tide_to_the_east :
    let v := synthesize groups 700003600 45000000 (some 18842)
    v.terms.map (·.phase) = [1073741824, 2684354560] ∧ v.sum = -2121 ∧ v.tide = -2439 := by decide +kernel

/-- 6.2.1: the six lookups. -/
theorem test_lookups :
    [64000492, 69000000, 77000000, 78000000, 83000000, 45000000].map (lookup slots) =
      [some (271947356, false), some (-263000000, false), some (-1004000000, true), some (-1004000000, true),
       some (-1715000000, false), some (700000000, true)] := by decide

/-! ### Frames and commands -/

/-- R174: IDEN with tag 1 and no payload, byte by byte, is IDEN. -/
theorem test_iden_frame :
    receiveFrame .b [0xC5, 0x01, 0x49, 0x44, 0x45, 0x4E, 0x00, 0x00, 0x1A] = .command (.iden .b 1 []) ∧
      Instr.frame (.iden .b 1 []) = [0xC5, 0x01, 0x49, 0x44, 0x45, 0x4E, 0x00, 0x00, 0x1A] := by decide +kernel

/-- R160: a wrong byte sum, and a length above 520. -/
theorem test_bad_frames :
    receiveFrame .a [0xC5, 0x01, 0x49, 0x44, 0x45, 0x4E, 0x00, 0x00, 0x1B] = .command (.frameCheckError .a 1) ∧
      receiveFrame .a [0xC5, 0x01, 0x49, 0x44, 0x45, 0x4E, 0x09, 0x02] = .command (.frameLengthError .a 1 521) := by
  decide +kernel

/-- R161: a name that is no request. -/
theorem test_unknown_name :
    receiveFrame .a (Instr.frame (.unknownRequest .a 7 [65, 66, 67, 68] [9])) =
      .command (.unknownRequest .a 7 [65, 66, 67, 68] [9]) := by decide +kernel

/-- R158, R160: the check byte of the IDEN frame of R174 comes in on Port A, which drives the fill byte 0x00 meanwhile. -/
theorem test_check_byte_completes_a_request :
    let t := State.byteTime { State.reset with
      portA := { State.reset.portA with received := [0xC5, 0x01, 0x49, 0x44, 0x45, 0x4E, 0x00, 0x00] }
      incoming := ⟨[0x1A, 0x00], []⟩ }
    t.pending = [.iden .a 1 []] ∧ t.portA.received = [] ∧ t.portA.driven = some 0x00 ∧ t.incoming = ⟨[0x00], []⟩ := by
  decide +kernel

/-- R158, R159, R162: Port A holds its response's place until a byte is clocked in, Port B goes on at once, and each ignores
the byte that comes. -/
theorem test_responses_go_out_byte_by_byte :
    let q := { PortState.reset with response := some [0xC5, 0x07], sent := 1 }
    let s := { State.reset with portA := q, portB := q }
    (s.byteTime.portA = q ∧ s.byteTime.portB.driven = some 0x07 ∧ s.byteTime.pending = [.responseSent .b]) ∧
    (let t := State.byteTime { s with incoming := ⟨[0xC5], [0xC5]⟩ }
     t.portA.driven = some 0x07 ∧ t.portA.received = [] ∧ t.portB.received = [] ∧ t.incoming = ⟨[], []⟩ ∧
       t.pending = [.responseSent .a, .responseSent .b]) := by decide +kernel

/-- The table gives no row any bits, so no word spells a command. -/
theorem test_no_word_is_a_command :
    decodeTableWord 32 0xC5014944 = none ∧ State.reset.withFetchWord 32 0xC5014944 = State.reset := ⟨rfl, rfl⟩

/-- One term refused for each check of well-formedness, and its neighbour that passes. -/
theorem test_ill_formed_commands_are_refused :
    (Instr.peer .a 1 (List.replicate 521 0)).wellFormed = false ∧ (Instr.peer .a 1 (List.replicate 520 0)).wellFormed = true ∧
    (Instr.unknownRequest .a 1 [65, 66, 67] []).wellFormed = false ∧
    (Instr.unknownRequest .a 1 (requestName 'I' 'D' 'E' 'N') []).wellFormed = false ∧
    (Instr.unknownRequest .a 1 (requestName 'I' 'D' 'E' 'A') []).wellFormed = true ∧
    (Instr.frameLengthError .a 1 520).wellFormed = false ∧ (Instr.frameLengthError .a 1 521).wellFormed = true ∧
    (Instr.sensorEdge 0).wellFormed = false ∧ (Instr.sensorEdge 1).wellFormed = true ∧
    (Instr.referencePeriodEnd 0).wellFormed = false ∧ (Instr.referencePeriodEnd 1).wellFormed = true := by decide +kernel

/-! ### One step each, from the worked sequences -/

/-- 1.3.1: the completion report of the worked gate. -/
theorem test_completion_of_a_gate :
    after .completionEdge
      { survey with
        gate := { counting with k := 12, edgeCount := 4095, refCount := 4000017, start := some ⟨700004120, 49807, .set, .pulse⟩ }
        clock := { survey.clock with seconds := 700004121, lastTick := 58399963 } }
      (fun t => (t.gate.state, t.engine.reports)) =
    some (.idle, [.completion ⟨1, 12, 4000017, 64000272, ⟨700004120, 49807, .set, .pulse⟩,
      ⟨700004121, 10486, .set, .pulse⟩, false⟩]) := by decide +kernel

/-- 2.2.1, frames 6, 3 and 9. -/
theorem test_frames_taken_unlevel :
    after .levelMonitorFrame (levelAt .unlevel 2 15500 3000 false) (fun t => (t.level.state, t.level.debounce, t.portA.flags.levl)) =
      some (.level, 3, ⟨1, some (.levl .level .entered (some ⟨15500, 3000, 249250000⟩))⟩) ∧
    after .levelMonitorFrame (levelAt .unlevel 1 17500 5000 false) (fun t => (t.level.state, t.level.debounce)) =
      some (.unlevel, 0) ∧
    after .levelMonitorFrame (levelAt .unlevel 0 9000 2000 true) (fun t => (t.level.state, t.level.debounce)) =
      some (.unlevel, 0) := by decide +kernel

/-- 2.2.1, frames 7 and 8. -/
theorem test_frames_taken_level :
    after .levelMonitorFrame (levelAt .level 3 19000 8000 false) (fun t => (t.level.state, t.level.debounce)) = some (.level, 3) ∧
    after .levelMonitorFrame (levelAt .level 3 20000 12000 false) (fun t => (t.level.state, t.level.debounce, t.engine.levelNotices)) =
      some (.unlevel, 0, [.unlevel]) := by decide +kernel

/-- 3.3.1, frames 1, 4, 5 and 7: the baseline begun, stepped, frozen and followed. -/
theorem test_baseline_rises_and_falls :
    after .thermalTrackerFrame (thermalAt 450000 false none 0 0 .inside) (fun t => (t.thermal.baseline, t.thermal.bucket)) =
      some (some 450000, 0) ∧
    after .thermalTrackerFrame (thermalAt 450045 false (some 450000) 70 0 .inside)
      (fun t => (t.thermal.baseline, t.thermal.bucket)) = some (some 450005, 0) ∧
    after .thermalTrackerFrame (thermalAt 450120 false (some 450005) 0 0 .inside)
      (fun t => (t.thermal.baseline, t.thermal.window, t.portB.flags.thrm.count)) = some (some 450005, .outside, 1) ∧
    after .thermalTrackerFrame (thermalAt 449990 false (some 450005) 25 0 .inside)
      (fun t => (t.thermal.baseline, t.thermal.bucket)) = some (some 449990, 0) := by decide +kernel

/-- 3.3.1, frames 9, 10 and 11: a large fall counted, held through a saturated frame, and the low reset. -/
theorem test_low_reset :
    after .thermalTrackerFrame (thermalAt 449955 false (some 449990) 0 1 .inside) (fun t => t.thermal.lowCount) = some 2 ∧
    after .thermalTrackerFrame (thermalAt 449960 true (some 449990) 0 2 .inside)
      (fun t => (t.thermal.lowCount, t.thermal.window)) = some (2, .outside) ∧
    after .thermalTrackerFrame (thermalAt 449952 false (some 449990) 0 2 .outside)
      (fun t => (t.thermal.baseline, t.engine.thermalReports.map (·.lowReset))) = some (some 449952, [true]) := by
  decide +kernel

/-- 4.6.1: P4 qualifies and realigns 0.3 s into the second. -/
theorem test_pulse_qualifies :
    after .secondPulseInternal
      { survey with clock := { survey.clock with seconds := 700003601, discipline := .internal, lastTick := 57000000,
                                                 prevPulse := some 50000100, good := 2 } }
      (fun t => (t.clock.discipline, t.clock.seconds, t.clock.lastTick, t.portA.flags.clck.detail)) =
    some (.pulse, 700003601, 60000000,
      some (.clck .discipline .pulse (some .qualified) (some false) 700003601 none)) := by decide +kernel

/-- 4.6.1: the substitute tick applies the preload, with fraction 3 when it is taken. -/
theorem test_substitute_tick :
    after .pulseWindowExpiry
      { survey with clock := { survey.clock with seconds := 700003602, preload := some 700003700, lastTick := 49999500 } }
      (fun t => (t.clock.seconds, t.clock.miss, t.clock.preload, t.clock.fraction t.now, t.portA.flags.clck.detail)) =
    some (700003700, 1, none, 3, some (.clck .stepped .pulse none none 700003700 (some 97))) := by decide +kernel

/-- 7.4.1: the worked gate is accepted with sample 271,942,860. -/
theorem test_worked_gate_is_accepted :
    (match gating.evaluate reading heldGate report with
      | .next t => t.engine.reading.map fun r => (r.attempts, r.accepted, r.sums.s, r.sums.tilt, r.sums.thermal, r.sums.tide)
      | _ => none) = some (1, 1, 271942860, 534, -30, -5000) := by decide +kernel

/-- 7.5.1: an UNLEVEL notice while the gate counts. -/
theorem test_level_lost_while_counting :
    after .levelNotice { gating with engine := { gating.engine with levelNotices := [.unlevel] } }
      (fun t => (t.gate.state, t.engine.reading.map fun r => (r.attempts, r.drops.offLevel))) = some (.idle, some (1, 1)) := by
  decide +kernel

/-- 7.6.1: ticket 40 is the other port's, 41 is queued. -/
theorem test_cancels :
    after (.rdcn .b 9 [40, 0]) gating (answered .b) = some (some (Status.name .deny, [])) ∧
    after (.rdcn .b 9 [41, 0]) gating (fun t => (answered .b t, t.engine.queue.length, t.portA.flags.rdon.detail)) =
      some (some (Status.name .okay, [41, 0, 0]), 0, some (.rdon 41 .aborted (some .queued) 318 0 0)) := by decide +kernel

/-- 8.4: the first and the second STDF of station 1207. -/
theorem test_station_defined :
    after (.stdf .b 1 (u16 1207 ++ s32 (-24512300) ++ [1] ++ u16 40000)) { survey with stations := [], occupations := ⟨[], 318, []⟩ }
      (fun t => ((answered .b t).map (·.1), t.stations)) = some (some (Status.name .clmp), [⟨1207, -24512300, some 32767, 0, none⟩]) ∧
    after (.stdf .b 1 (u16 1207 ++ s32 (-24512300) ++ [1] ++ u16 16712))
      { survey with stations := [⟨1207, -24512300, some 32767, 0, none⟩], occupations := ⟨[], 318, []⟩ }
      (fun t => ((answered .b t).map (·.1), t.stations)) = some (some (Status.name .okay), [⟨1207, -24512300, some 16712, 0, none⟩]) := by
  decide +kernel

/-- 8.4: an OCOP while 318 is open, and an OCCL while a reading is pending. -/
theorem test_occupation_held_and_pending :
    after (.ocop .a 1 (u16 1207)) survey (answered .a) = some (some (Status.name .held, u32 318)) ∧
    after (.occl .b 1 (u32 318)) gating (answered .b) = some (some (Status.name .pend, [2])) := by decide +kernel

/-- 9.4.1: the program of 318 fails, and it stays ahead of 320 for the next page. -/
theorem test_program_failure :
    after .pageProgramFailure programming (fun t => (t.archive.writePage, t.archive.failureCount, t.archive.loadOrder, t.archive.activity)) =
      some (1843, 1, [.b0, .b1], .idle) := by decide +kernel

/-- 9.4.1: the retry of 318 at the next page commits. -/
theorem test_retry_commits :
    after .pageProgramSuccess { programming with archive := { programming.archive with writePage := 1843, failureCount := 1 } }
      (fun t => ((t.archive.writePage, t.archive.failureCount, t.archive.buffer0), t.occupations.entries.map (·.number),
        t.portA.flags.arch.detail)) =
      some ((1844, 0, .free), [320], some (.arch .committed .ready (some 318) (some 1843) 1844 0)) := by decide +kernel

/-- R138, R177: the page of a program that committed is VALID and holds the record; cut short before its marker it is INVALID
from its bytes, though a record stood there before. -/
theorem test_committed_page :
    let f := (Flash.commit ⟨[], none⟩ 3 (record 318))
    f.condition 3 = .valid ∧ f.condition 2 = .erased ∧ f.newest = some (3, 318) ∧
      (f.beginProgram 3 (record 318)).condition 3 = .invalid ∧ (f.beginProgram 3 (record 318)).newest = none := by
  decide +kernel

/-- 9.6.1: the write page, the counter and the state after the three mounts. -/
theorem test_three_mounts :
    (mountPage (some (1841, 2318)), mountCounter (some (1841, 2318)), mountFull (some (1841, 2318)) false) = (1842, 2319, false) ∧
    (mountPage (some (611, 5341)), mountCounter (some (611, 5341)), mountFull (some (611, 5341)) true) = (612, 5342, false) ∧
    (mountPage (some (4095, 3906)), mountCounter (some (4095, 3906)), mountFull (some (4095, 3906)) false) = (0, 3907, true) := by
  decide

/-- 10.4.1: RDON acknowledged once after a second posting. -/
theorem test_acknowledge_across_a_posting :
    after (.evak .b 1 [0, 1])
      { ready with portB := (ready.portB.post (.rdon 52 .done none 9 4 4)).post (.rdon 53 .short none 9 3 6) }
      (fun t => (answered .b t, t.portB.flags.rdon, t.portB.atn)) =
    some (some (Status.name .okay, [1]), ⟨1, some (.rdon 53 .short none 9 3 6)⟩, true) := by decide +kernel

/-! ### Witnesses: the hypotheses of each statement, met together, each clause at the ends of its range -/

/-- The command answers a next state. -/
abbrev Runs (c : Instr) (s : State) : Prop := ∃ t, exec c s = .next t

/-- A part with a response still to be sent on Port A. -/
def answering : State := ready.answer .a 1 .okay []

/-- A state with a command waiting. -/
def holding (s : State) (c : Instr) : State := { s with pending := [c] }

theorem witness_StepRunsTheFrontCommand :
    State.reset.pending = [] ∧ State.reset.incoming = ⟨[], []⟩ ∧ State.reset.portB.response = none := by decide +kernel

theorem witness_ExecLeavesTheQueue : Runs .levelNotice gating ∧ Runs (.rdrq .a 1 []) State.reset := ⟨⟨_, rfl⟩, ⟨_, rfl⟩⟩

theorem witness_ResponseFramesAreWellFormed :
    ([] : List Byte).length ≤ 520 ∧ (List.replicate 520 (0xFF : Byte)).length ≤ 520 := by decide +kernel

theorem witness_FramesAreReceivedAsSent :
    (let i := Instr.peer .b 9 (List.replicate 520 0xC5)
     i.request = some (.b, 9, [80, 69, 69, 82]) ∧ i.wellFormed = true ∧
     (let s : State := { State.reset with incoming := ⟨[], i.frame ++ [0]⟩ }
      (s.port .b).response = none ∧ (s.port .b).received = [] ∧ s.incoming.get .b = i.frame ++ [0])) ∧
    (0 : Nat) < 529 ∧ (0xC4 : Byte) ≠ 0xC5 ∧ State.reset.incoming.get .a = [] ∧
    receiveFrame .a ([0xC5] ++ [0xC5]) = .incomplete ∧ receiveFrame .a ([] ++ [0x00]) = .skipped ∧
    receiveFrame .a ([0xC5, 0x01, 0x49, 0x44, 0x45, 0x4E, 0x00, 0x00] ++ [0x1A]) = .command (.iden .a 1 []) ∧
    (answering.port .a).response = some [0xC5, 0x01, 0x4F, 0x4B, 0x41, 0x59, 0x00, 0x00, 0x06] ∧ answering.incoming.a = [] ∧
    (let s : State := { answering with
        incoming := ⟨[0x00], []⟩
        portA := { answering.portA with sent := 7 } }
     s.incoming.get .a ≠ [] ∧ (s.port .a).sent + 1 < 9 ∧ 9 ≤ (s.port .a).sent + 2) := by decide +kernel

theorem witness_FramesAreServedInOrder :
    (answering.port .a).response ≠ none ∧ (Instr.iden .a 2 []).request = some (.a, 2, [73, 68, 69, 78]) ∧
    (Instr.rstr .a 2 []).startsBusy = true ∧ (Instr.rstr .a 2 []).request = some (.a, 2, [82, 83, 84, 82]) ∧
    (State.reset.port .a).response = none ∧ State.reset.startUp.phase ≠ .ready ∧ ready.takes .a ∧
    (Instr.cgat .a 2 []).fixedLength = some 1 ∧ (Instr.cgat .a 2 []).payload = some [] ∧
    64 < (List.replicate 65 (0 : Byte)).length ∧ (List.replicate 23 (0 : Byte)).length ∉ [22, 34, 43, 19, 13, 33, 7, 10, 6] := by
  decide +kernel

theorem witness_RefusedRequestsChangeNothing :
    (Instr.live .b 0 []).request = some (.b, 0, [76, 73, 86, 69]) ∧ (ready.port .b).response = none := by decide +kernel

theorem witness_RequestsLeaveTheOtherPort :
    (Instr.peer .a 3 [1]).request = some (.a, 3, [80, 69, 69, 82]) ∧ Runs (.peer .a 3 [1]) ready :=
  ⟨by decide +kernel, _, rfl⟩

theorem witness_FramesThatAreNoRequest : (State.reset.port .a).response = none ∧ (State.reset.port .b).response = none := by
  decide +kernel

/-- A part with 255 PEER postings on Port A, and one command waiting. -/
def posted (c : Instr) : State :=
  { ready with
    portA := { ready.portA with flags := { ready.portA.flags with peer := ⟨255, some (.peer .b [])⟩ }, pulses := 255, atn := true }
    pending := [c] }

theorem witness_StepKeepsThePorts :
    (posted (.evrd .a 1 [])).LinesFollow ∧ (posted (.evrd .a 1 [])).CountsHeld ∧
      (∃ t, step (posted (.evrd .a 1 [])) = .next t) ∧
      ({ answering with portA := { answering.portA with sent := 8 } } : State).PortsInOrder := by
  refine ⟨⟨⟨fun _ => ⟨.peer, by decide, by decide⟩, fun _ => rfl⟩, ⟨fun h => (by cases h), ?_⟩⟩, ⟨⟨?_, by decide⟩, ⟨?_, by decide⟩⟩,
    ⟨_, rfl⟩, fun p => (by cases p <;> decide +kernel), fun p _ => (by cases p <;> rfl), fun p l h => .inl ?_⟩
  rotate_right
  · cases p
    · obtain rfl := Option.some.inj h
      decide +kernel
    · cases h
  · rintro ⟨f, -, h⟩
    cases f <;> simp [posted, ready, State.reset, State.afterReset, PortState.reset, PerFlag.get, PerFlag.all] at h
  · intro f; cases f <;> decide
  · intro f; cases f <;> decide

theorem witness_FlagsAreReadAndAcknowledged :
    ready.takes .a ∧ (ready.port .a).config.policy = .explicit ∧
    (let s := { ready with portA := { ready.portA with config := { ready.portA.config with policy := .readClears } } }
     s.takes .a ∧ (s.port .a).config.policy = .readClears) ∧
    EventFlag.ofCode (u8At [7, 255] 0) = some .rset ∧ 8 ≤ u8At [8, 255] 0 ∧ Signed32 (-1000000) ∧ Signed32 1000000 ∧
    (∀ n, some 4294967295 = some n → n ≤ 4294967295) ∧ (∀ v, (none : Option Int) = some v → Signed32 v) :=
  ⟨by decide +kernel, rfl, by decide +kernel, rfl, by decide, by decide, by decide, fun n h => by cases h; decide,
    fun v h => by cases h⟩

theorem witness_PortsAreConfiguredAndPulsed :
    ready.takes .b ∧ (∀ i, i < 10 → u8At [1, 0, 1, 1, 1, 1, 1, 1, 0, 1] i ≤ 1) ∧ 1 < u8At [0, 0, 0, 0, 0, 0, 0, 0, 2, 0] 8 ∧
    1 < u8At [0, 0, 0, 0, 0, 0, 0, 0, 0, 2] 9 ∧ 1 < u8At [0, 0, 0, 0, 0, 0, 0, 2, 0, 0] 7 ∧
    (List.replicate 64 (0 : Byte)).length ≤ 64 := by decide +kernel

theorem witness_PowerAndLineResets :
    survey.archive.activity ≠ .program ∧ survey.archive.activity ≠ .store ∧
    ({ survey with archive := { survey.archive with activity := .store } } : State).archive.activity = .store ∧
    programming.archive.activity = .program ∧ programming.archive.programmingBuffer = some (.b0, record 318) := by decide +kernel

/-- The part with a restart asked for on Port A. -/
def restarting : State := { answering with now := 5000000, startUp := ⟨.restart, .power, .none, some ⟨.a, 5000000⟩⟩ }

theorem witness_RestartsKeepTheRest :
    ready.takes .a ∧ (ready.port .a).response = none ∧ (answering.port .a).response ≠ none ∧
    (∀ due, answering.startUp.restart ≠ some ⟨.a, due⟩) ∧ Restarts (.responseSent .a) restarting .a ∧
    Restarts .restartTimerExpiry restarting .a :=
  ⟨by decide +kernel, rfl, by decide +kernel, fun _ h => (by cases h), ⟨5000000, rfl, .inl ⟨rfl, by decide +kernel⟩⟩,
    ⟨5000000, rfl, .inr ⟨rfl, by decide⟩⟩⟩

/-- R18 and R45: a restart keeps the baseline, and no frame of the scan before it is left for the tracker to take. -/
theorem test_restart_drops_waiting_frame :
    after .restartTimerExpiry
        { restarting with thermal := { restarting.thermal with baseline := some 450210, frames := [frame] } }
        (fun t => (t.thermal.baseline, decide (after .thermalTrackerFrame t (fun u => u.thermal) = some t.thermal))) =
      some (some 450210, true) := by decide +kernel

theorem witness_StartUpPhasesEnd :
    State.reset.startUp.phase = .load ∧ State.reset.flash.image = none ∧ ready.startUp.phase ≠ .load ∧
    ready.startUp.phase ≠ .mount ∧ State.reset.flash.newest = none ∧
    ({ State.reset with startUp := { State.reset.startUp with phase := .mount } } : State).startUp.phase = .mount ∧
    (Flash.commit ⟨[], some ⟨groups, 7⟩⟩ 4094 (record 4294967295)).newest = some (4094, 4294967295) ∧
    (Flash.commit ⟨[], none⟩ 4095 (record 1)).newest = some (4095, 1) ∧ survey.model.groups.wrap = false := by decide +kernel

/-- The survey clock changed. -/
def clocked (discipline : Discipline) (lastTick : Nat) (prevPulse : Option Nat) (good miss bad : Nat) : State :=
  { survey with clock := { survey.clock with
      discipline := discipline, lastTick := lastTick, prevPulse := prevPulse, good := good, miss := miss, bad := bad } }

/-- The survey clock with a preload pending. -/
def preloaded : State := { survey with clock := { survey.clock with preload := some 0 } }

theorem witness_TicksAdvanceOrLoad :
    ready.clock.time = .unset ∧ survey.clock.time = .set ∧ survey.clock.preload = none ∧ preloaded.clock.time = .set ∧
    preloaded.clock.preload = some 0 ∧
    ¬((clocked .pulse 49999501 none 0 0 0).clock.discipline = .pulse ∧
      10000500 ≤ (clocked .pulse 49999501 none 0 0 0).now - (clocked .pulse 49999501 none 0 0 0).clock.lastTick) ∧
    (∀ m ∈ [1, 2], let s := clocked .pulse 49999500 none 0 m 0
      s.clock.discipline = .pulse ∧ 10000500 ≤ s.now - s.clock.lastTick) ∧
    (1 + 1 : Nat) ≠ 3 ∧ (2 + 1 : Nat) = 3 := by decide +kernel

theorem witness_PulsesQualify :
    (let s := clocked .internal 50000000 (some 49999499) 1 0 0
     s.clock.discipline = .internal ∧ ¬(s.now - 49999499 ≤ 10000500)) ∧
    (let s := clocked .internal 50000000 (some 49999500) 1 0 0
     s.clock.discipline = .internal ∧ s.clock.prevPulse = some 49999500 ∧ 9999500 ≤ s.now - 49999500 ∧ s.now - 49999500 ≤ 10000500 ∧
      s.clock.good + 1 ≠ 3) ∧
    (let s := clocked .internal 55000001 (some 50000500) 2 0 0
     s.clock.prevPulse = some 50000500 ∧ 9999500 ≤ s.now - 50000500 ∧ s.clock.good + 1 = 3 ∧ s.now - s.clock.lastTick < 5000000) ∧
    (let s := clocked .internal 55000000 (some 50000500) 2 0 0
     s.clock.good + 1 = 3 ∧ 5000000 ≤ s.now - s.clock.lastTick) := by decide +kernel

theorem witness_PulsesTickOrCountAsBad :
    (∀ last ∈ [50000500, 49999500], let s := clocked .pulse last none 0 1 1
      s.clock.discipline = .pulse ∧ 9999500 ≤ s.now - s.clock.lastTick ∧ s.now - s.clock.lastTick ≤ 10000500) ∧
    (let s := clocked .pulse 50000501 none 0 1 1
     ¬(9999500 ≤ s.now - s.clock.lastTick ∧ s.now - s.clock.lastTick ≤ 10000500) ∧ s.clock.bad + 1 ≠ 3) ∧
    (let s := clocked .pulse 49999499 none 0 1 2
     ¬(9999500 ≤ s.now - s.clock.lastTick ∧ s.now - s.clock.lastTick ≤ 10000500) ∧ s.clock.bad + 1 = 3) := by decide +kernel

theorem witness_CkstLoadsOrPreloads :
    ready.takes .a ∧ ready.clock.time = .unset ∧ survey.takes .a ∧ survey.clock.preload = none ∧ preloaded.takes .b ∧
    preloaded.clock.time = .set ∧ preloaded.clock.preload = some 0 ∧
    (Instr.surv .a 1 []).request = some (.a, 1, [83, 85, 82, 86]) ∧ (∀ q g l, Instr.surv .a 1 [] ≠ .ckst q g l) ∧
    Runs (.surv .a 1 []) ready :=
  ⟨by decide +kernel, rfl, by decide +kernel, rfl, by decide +kernel, rfl, rfl, by decide +kernel, fun _ _ _ h => (by cases h),
    _, rfl⟩

theorem witness_StepKeepsTheClockCounts :
    preloaded.clock.CountsInRange ∧ (∃ t, step (holding preloaded .pulseWindowExpiry) = .next t) ∧
    (clocked .pulse 49999500 none 0 2 2).clock.CountsInRange ∧ survey.clock.time = .set ∧ ¬Resets .secondPulseDisciplined ∧
    Runs .secondPulseDisciplined survey := by
  refine ⟨⟨by decide, by decide, by decide, by decide, fun h => (by cases h), fun _ => rfl, ?_⟩, ⟨_, rfl⟩,
    ⟨by decide, by decide, by decide, by decide, fun h => (by cases h), fun _ => rfl, fun v h => (by cases h)⟩, rfl, ?_, _, rfl⟩
  · intro v h; cases h; decide
  · rintro ⟨m, h | h⟩ <;> cases h

theorem witness_EdgesMoveTheGate :
    ready.gate.state = .idle ∧ (survey.armGate .engine 14).gate.state = .armed ∧ gating.gate.state = .counting ∧
    (let s : State := { gating with gate := { counting with edgeCount := 0 } }
     s.gate.state = .counting ∧ s.gate.edgeCount + 16383 < 2 ^ s.gate.k) ∧
    gating.gate.edgeCount + 1 = 2 ^ gating.gate.k ∧ gating.gate.start = some ⟨700003599, 13107, .set, .pulse⟩ ∧
    gating.gate.armer = some .engine ∧
    ({ gating with gate := { counting with armer := some (.calibration .b) } } : State).gate.armer = some (.calibration .b) := by
  decide +kernel

theorem witness_EdgeRunsAreSingleEdges :
    (gating.gate.state ≠ .idle → gating.gate.edgeCount < 2 ^ gating.gate.k) ∧ Runs (.referencePeriodEnd 3) gating :=
  ⟨by decide +kernel, _, rfl⟩

theorem witness_PeriodsAndTimeouts :
    gating.gate.state = .counting ∧ survey.gate.state ≠ .counting ∧ survey.gate.state = .idle ∧ gating.gate.state ≠ .idle ∧
    gating.gate.limitDue = some 60000000 ∧ 60000000 ≤ gating.now ∧ ({ gating with now := 59999999 } : State).now < 60000000 ∧
    gating.gate.armer = some .engine ∧
    ({ gating with gate := { counting with armer := some (.calibration .a) } } : State).gate.armer = some (.calibration .a) := by
  decide +kernel

/-- A calibration gate in flight, its report handed over. -/
def calibrating (frames : List Frame) (n : Nat) (report : GateReport) : State :=
  { ready with cal :=
    { result := { CalResult.none with state := .pending, port := some .a, k := some 12 }
      acc := ⟨n, 20000, -6000, some 450250, ⟨false, false, false⟩⟩, frames := frames, report := some report } }

theorem witness_CgatArmsTheGate :
    gating.gate.state ≠ .idle ∧ survey.gate.state = .idle ∧ survey.takes .a ∧ survey.model.mode = .survey ∧ ready.takes .a ∧
    ready.model.mode = .setup ∧ ready.cal.result.state ≠ .pending ∧ (calibrating [] 0 (.timeout 1 12 none)).takes .a ∧
    (calibrating [] 0 (.timeout 1 12 none)).model.mode = .setup ∧
    (calibrating [] 0 (.timeout 1 12 none)).cal.result.state = .pending := by decide +kernel

theorem witness_CalibrationGatesEnd :
    (calibrating [frame] 0 (.timeout 1 12 none)).cal.frames = [frame] ∧ ready.cal.frames = [] ∧ ready.cal.report = none ∧
    (calibrating [frame] 0 (.timeout 1 12 none)).cal.frames ≠ [] ∧
    (let s := calibrating [] 2 (.completion heldGate.report)
     s.cal.frames = [] ∧ s.cal.report = some (.completion heldGate.report) ∧ s.cal.result.port = some .a ∧ 0 < s.cal.acc.n) ∧
    (calibrating [] 0 (.completion heldGate.report)).cal.acc.n = 0 ∧
    (calibrating [] 0 (.completion heldGate.report)).scan.latest = none ∧ survey.scan.latest = some frame ∧
    (calibrating [] 0 (.timeout 1 12 none)).cal.report = some (.timeout 1 12 none) := by decide +kernel

/-- A scan whose interval has ended with all its conversions. -/
def scanned : Scanner :=
  { Scanner.reset with arrivalDue := some 60000000, convX := [8388607, 0], convY := [1, 2], convT := [3, 4] }

theorem witness_FramesAreFormedAndDelivered :
    survey.scan.arrivalDue ≠ none ∧ ready.scan.arrivalDue = none ∧
    (∀ g ∈ [SensorGate.reset, counting, { counting with armer := some (.calibration .b) }],
      let s : State := { survey with gate := g, scan := scanned }
      s.scan.arrivalDue = some 60000000 ∧ 60000000 ≤ s.now ∧ s.scan.convX.length = s.scan.averaging ∧
      s.scan.convY.length = s.scan.averaging ∧ s.scan.convT.length = s.scan.averaging) ∧
    SensorGate.reset.state ≠ .counting ∧ counting.state = .counting ∧ counting.armer = some .engine := by decide +kernel

/-- A saturated frame is below every bound, and 18,000 and 22,000 are the entry and the leave bound of the defaults. -/
theorem witness_LevelFramesAreJudged :
    (∀ st ∈ [LevelState.unlevel, .level], ∀ x ∈ [18000, 18001, 22000, 22001], ∀ sat ∈ [false, true],
      (levelAt st 2 x 0 sat).level.frames = [⟨2, x, 0, 450250, sat, false, false⟩] ∧
      (levelAt st 2 x 0 sat).level.state = st ∧ convertTilt 0 65536 x = x) ∧
    (let g := (levelAt .unlevel 2 18000 0 false).model.groups.tilt
     g.debounce = 3 ∧ (g.threshold - g.hysteresis) ^ 2 = 18000 * 18000 ∧ (g.threshold + g.hysteresis) ^ 2 = 22000 * 22000) := by
  decide +kernel

theorem witness_ThermalFramesAreTracked :
    (∀ old ∈ [none, some 450000], ∀ temp ∈ [449979, 449980, 450000, 450050, 450051], ∀ sat ∈ [false, true], ∀ bucket ∈ [0, 50],
      ∀ low ∈ [0, 2], let s := thermalAt temp sat old bucket low .inside
      s.thermal.frames = [⟨2, 0, 0, temp, false, false, sat⟩] ∧ roundDiv (temp * 65536) 65536 + 0 = temp) ∧
    (let g := (thermalAt 0 false none 0 0 .inside).model.groups.thrm
     g.nUp = 50 ∧ g.nDown = 20 ∧ g.bucketLimit = 100 ∧ g.lowFrames = 3) := by decide +kernel

/-- LEVEL with the tilts at the leave bound. -/
def atBound : State :=
  { survey with level := { survey.level with tilts := some ⟨22000, 0, 484000000⟩, frames := [frame] }, pending := [.levelMonitorFrame] }

theorem witness_StepKeepsLevelMeaning : atBound.LevelMeansLevel ∧ ∃ t, step atBound = .next t :=
  ⟨⟨fun _ => ⟨rfl, rfl, _, rfl, by decide⟩, fun h => (by cases h), by decide, fun i h => (by cases h)⟩, _, rfl⟩

theorem witness_TiltCorrectionIsNearest :
    Within 976000 984000 976000 ∧ Within 976000 984000 984000 ∧ Within (-1000000) 1000000 (-1000000) ∧
    Within (-1000000) 1000000 1000000 := by decide

theorem witness_CosineFoldsAndMirrors : 2147483647 < 2147483648 ∧ 0 < 1 ∧ 4294967295 < 4294967296 := by decide

theorem witness_CosineIsNearest : 0 < 4294967296 ∧ 4294967295 < 4294967296 := by decide

theorem witness_TideTermsAreTheEnabledSlots :
    (synthesize groups 4294967295 180000000 (some 32767)).terms.length = 2 := by decide +kernel

theorem witness_StatusRequestsReport :
    survey.takes .a ∧ survey.level.taken = true ∧ survey.level.tilts = some ⟨10000, -3000, 109000000⟩ ∧
    survey.scan.latest = some frame ∧ ready.takes .b ∧ ready.level.taken = false ∧ (State.reset.port .a).response = none ∧
    State.reset.startUp.phase = .load ∧ (ready.port .a).response = none ∧ ready.startUp.phase ≠ .load := by decide +kernel

/-- No five bytes that begin with another letter name a group. -/
theorem no_group_is_named (id : GroupId) : ([1, 2, 3, 4, 5] : List Byte) ≠ id.name ++ u8 id.index := by
  intro h
  cases id <;> exact absurd (congrArg (fun l => l.headD 0) h) (by simp [GroupId.name, letters, byte])

theorem witness_TablesAreRead : (∀ id : GroupId, ([1, 2, 3, 4, 5] : List Byte) ≠ id.name ++ u8 id.index) ∧
    survey.takes .b ∧ ¬(1 ≤ u16At [0xFF, 0xFF, 0, 0, 0, 0] 0 ∧ u16At [0xFF, 0xFF, 0, 0, 0, 0] 0 ≤ 65534) ∧
    ¬(1 ≤ u16At [0, 0, 0, 0, 0, 0] 0) ∧
    survey.station 65534 = none ∧ survey.station 1 = none ∧ survey.station 1207 = some ⟨1207, 0, none, 1, some 318⟩ ∧
    (survey.stations.map (·.number)).Nodup ∧ (∀ x ∈ survey.stations, 1206 < x.number → 1207 ≤ x.number) ∧
    (∀ e ∈ survey.stations, e.number ≤ 1207) ∧ survey.occupation 0 = none ∧
    survey.occupation 318 = some ⟨318, 1207, .isOpen, some 700003000, none, []⟩ ∧
    (∀ o ∈ survey.occupations.entries, o.number ≤ 318) ∧ (survey.occupations.entries.map (·.number)).Nodup ∧
    (∀ x ∈ survey.occupations.entries, 317 < x.number → 318 ≤ x.number) ∧ 318 ∉ survey.occupations.archiveQueue ∧
    (let o : Occupation := ⟨318, 1207, .closed, some 700003000, some 700004000, List.replicate 8 result⟩
     let s : State := { survey with occupations := ⟨[o], 321, [317, 318]⟩ }
     s.occupation 318 = some o ∧ o.state = .closed ∧ s.occupations.archiveQueue = [317] ++ 318 :: [] ∧ 318 ∉ [317] ∧
       ((o.results.drop 4).take 4).length = 4 ∧ ((o.results.drop 8).take 4).length = 0) :=
  ⟨no_group_is_named, by decide +kernel⟩

/-- What holds of every element of a list holds of every one found in it. -/
theorem each {α : Type} (l : List α) (P : Nat → α → Prop) (h : ∀ j : Fin l.length, P j l[j]) (j : Nat) (d : α)
    (hd : l[j]? = some d) : P j d := by
  obtain ⟨hj, rfl⟩ := List.getElem?_eq_some_iff.mp hd
  exact h ⟨j, hj⟩

theorem witness_GroupWritesStoreOneRecord :
    survey.takes .a ∧ survey.model.mode = .survey ∧ ready.takes .a ∧ ready.model.mode = .setup ∧
    (∀ n ∈ [6, 7, 10, 13, 19, 22, 33, 34, 43], n ∈ [22, 34, 43, 19, 13, 33, 7, 10, 6]) ∧
    (∀ (id : GroupId) (record : List Byte),
      List.replicate 22 1 = id.name ++ u8 id.index ++ record → record.length ≠ id.recordLength) ∧
    [0x41, 0x52, 0x43, 0x56, 0, 2] = GroupId.arcv.name ++ u8 GroupId.arcv.index ++ [2] ∧
    ready.model.groups.write .arcv [2] = none ∧ (ready.model.groups.write .arcv [1]).isSome = true := by
  refine ⟨by decide +kernel, rfl, by decide +kernel, rfl, by decide, ?_, by decide +kernel, by decide +kernel, by decide +kernel⟩
  intro id record h
  cases id <;> exact absurd (congrArg (fun l => l.headD 0) h) (by simp [GroupId.name, letters, byte])

/-- A record of zeros and a record of 255s with its marks and enumerated fields in their sets. -/
theorem witness_RecordsAreClamped :
    (∀ id ∈ [GroupId.cali 23, .tilt, .thrm, .tide 15, .tidr, .gate, .wind .a, .wind .b, .arcv],
      (Groups.defaults.write id (List.replicate id.recordLength 0)).isSome = true) ∧
    (Groups.defaults.write .scan [3, 8]).isSome = true ∧ Groups.defaults.write .scan [4, 8] = none ∧
    Groups.defaults.write .scan [0, 3] = none ∧ Groups.defaults.write (.tide 0) (1 :: 4 :: List.replicate 12 0) = none ∧
    (Groups.defaults.write (.tide 0) (1 :: 3 :: List.replicate 12 0xFF)).isSome = true ∧
    Groups.defaults.write (.cali 0) (2 :: List.replicate 16 0) = none ∧
    Groups.defaults.write .thrm (List.replicate 37 0 ++ [2]) = none ∧
    Groups.defaults.write (.wind .a) [1, 0, 1, 0, 2] = none := by decide +kernel

theorem groups_in_range : groups.InRange :=
  ⟨by decide +kernel, by decide, by decide, by decide +kernel, by decide, by decide, by decide, by decide, by decide⟩

theorem witness_GroupRecordsRoundTrip :
    groups.InRange ∧ ∃ w, Groups.defaults.write .arcv [1] = some w := ⟨groups_in_range, _, rfl⟩

theorem witness_BlocksBeginAfresh :
    ready.scan.latest = none ∧ survey.scan.latest = some frame ∧ ready.level.state = .unlevel ∧ survey.level.state = .level := by
  decide +kernel

/-- A part in SETUP with the given groups. -/
def setting (g : Groups) : State := { ready with model := ⟨g, .setup, 65535, false⟩ }

/-- The groups of the second validation check: the slot before the bad one is good. -/
def crossed : Groups := { groups with cali := groups.cali.set 1 ⟨true, 5, 4, 0, 0⟩ }

theorem witness_ModesChange :
    ready.takes .a ∧ ready.model.mode = .setup ∧ gating.takes .a ∧ gating.model.mode = .survey ∧ gating.engine.queue ≠ [] ∧
    gating.engine.reading ≠ none ∧ survey.engine.queue = [] ∧ survey.engine.reading = none ∧
    survey.model.storeOutstanding = false ∧
    ({ survey with model := { survey.model with storeOutstanding := true } } : State).model.storeOutstanding = true ∧
    (calibrating [] 0 (.timeout 1 12 none)).cal.result.state = .pending ∧ (setting groups).cal.result.state ≠ .pending ∧
    (∀ c ∈ (setting Groups.defaults).model.groups.cali.toList, c.enabled = false) ∧
    crossed.cali.toList[1]? = some ⟨true, 5, 4, 0, 0⟩ ∧
    (∀ (j : Nat) (d : CaliSlot), j < 1 → crossed.cali.toList[j]? = some d → d.enabled = true → d.start ≤ d.stop) ∧
    (∃ c ∈ groups.cali.toList, c.enabled = true) ∧ (∀ c ∈ groups.cali.toList, c.enabled = true → c.start ≤ c.stop) ∧
    (let g : GateGroup := { groups.gate with rawHigh := 50000000 }
     g.rawHigh ≤ g.rawLow) ∧
    groups.gate.rawLow < groups.gate.rawHigh ∧ groups.tilt.hysteresis < groups.tilt.threshold ∧
    (let t : TiltGroup := { groups.tilt with hysteresis := 20000 }
     t.threshold ≤ t.hysteresis) ∧
    (let s : State := { setting { groups with wrap := true } with archive := { ready.archive with state := .full } }
     s.archive.state = .full ∧ s.model.groups.wrap = true) ∧
    ¬((setting groups).archive.state = .full ∧ (setting groups).model.groups.wrap = true) := by
  refine ⟨by decide +kernel, rfl, by decide +kernel, rfl, by decide +kernel, by decide +kernel, rfl, rfl, rfl, rfl, rfl,
    by decide +kernel, by decide +kernel, by decide +kernel, ?_, by decide +kernel, by decide +kernel, by decide, by decide,
    by decide, by decide, by decide +kernel, by decide +kernel⟩
  intro j d hj h
  obtain rfl : j = 0 := by omega
  have : crossed.cali.toList[0]? = some ⟨true, 60000000, 70000000, 700000000, -7012352⟩ := by decide +kernel
  rw [this] at h
  cases h
  decide

/-- 70,000,000 ends slot 0, 76,000,000 ends slot 1, and 78,000,000 is as far from slot 1 as from slot 5. -/
theorem witness_LookupSelects :
    (∀ c ∈ slots, c.enabled = true → c.start ≤ c.stop) ∧ (∃ c ∈ slots, c.enabled = true) ∧
    (∀ (j : Nat) (d : CaliSlot), slots[j]? = some d → j < 0 → d.enabled = true → ¬(d.start ≤ 70000000 ∧ 70000000 ≤ d.stop)) ∧
    (∀ (j : Nat) (d : CaliSlot), slots[j]? = some d → j < 1 → d.enabled = true → ¬(d.start ≤ 76000000 ∧ 76000000 ≤ d.stop)) ∧
    ∀ (j : Nat) (d : CaliSlot), slots[j]? = some d → d.enabled = true → ¬(d.start ≤ 78000000 ∧ 78000000 ≤ d.stop) ∧
      (68000000 - 78000000) + (78000000 - 76000000) ≤ (d.start - 78000000) + (78000000 - d.stop) ∧
      (j < 1 → (68000000 - 78000000) + (78000000 - 76000000) < (d.start - 78000000) + (78000000 - d.stop)) :=
  ⟨by decide, by decide, each slots _ (by decide), each slots _ (by decide), each slots _ (by decide)⟩

theorem not_a_reset (c : Instr) (h : (match c with | .powerReset _ | .lineReset _ => false | _ => true) = true) : ¬Resets c := by
  rintro ⟨m, rfl | rfl⟩ <;> simp at h

theorem witness_ModelStaysInRange :
    gating.ModelInRange ∧ (∃ t, step (holding gating .takeHead) = .next t) ∧ gating.model.mode = .survey ∧
    ¬Resets (.mdwr .a 1 []) ∧ Instr.mdwr .a 1 [] ≠ .modelLoadEnd ∧ Runs (.mdwr .a 1 []) gating :=
  ⟨⟨groups_in_range, fun i h => (by cases h)⟩, ⟨_, rfl⟩, rfl, not_a_reset _ rfl, fun h => (by cases h), _, rfl⟩

/-- A queue of n entries of occupation 318 behind the reading in flight. -/
def queued (n : Nat) : State :=
  { gating with engine := { gating.engine with
      queue := (List.range n).map fun i => ⟨41 + i, .b, 318, 4, 2, 2, 14⟩, nextTicket := 41 + n } }

/-- The reading in flight with so many results before it. -/
def withResults (s : State) (n : Nat) : State :=
  { s with occupations := { s.occupations with
      entries := [⟨318, 1207, .isOpen, some 700003000, none, List.replicate n result⟩] } }

theorem witness_RdrqQueues :
    ready.takes .a ∧ ready.model.mode = .setup ∧ survey.takes .a ∧
    (let s : State := { survey with clock := Clock.reset }
     s.model.mode = .survey ∧ s.clock.time = .unset) ∧
    survey.model.mode = .survey ∧ survey.clock.time = .set ∧ survey.occupation 317 = none ∧
    survey.occupation 318 = some ⟨318, 1207, .isOpen, some 700003000, none, []⟩ ∧
    (programming.occupation 318).map (·.state) = some .staged ∧
    (∀ w ∈ [(⟨1207, 1207, true⟩ : Window), ⟨1, 1206, false⟩, ⟨1208, 65534, false⟩],
      ¬(w.writeProtect = false ∧ w.first ≤ 1207 ∧ 1207 ≤ w.last)) ∧
    (survey.model.groups.window .a).writeProtect = false ∧ (survey.model.groups.window .a).first ≤ 1207 ∧
    1207 ≤ (survey.model.groups.window .a).last ∧ (queued 4).engine.queue.length = 4 ∧ (queued 3).engine.queue.length ≠ 4 ∧
    (∀ n ∈ [4, 3], let s := withResults (queued 3) n
      (n = 4 ↔ n + s.engine.queue.countP (fun q => decide (q.occupation = 318)) + 1 = 8) ∧
      s.engine.reading = some reading ∧ reading.occupation = 318) ∧
    (queued 3).engine.queue.length < 4 ∧ advancePast ticketAfter [65535, 1, 2] 3 (ticketAfter 65535) = 3 := by decide +kernel

/-- The counter of a table whose numbers 1 and 2 are taken wraps past them (R125). -/
theorem test_counter_wraps_past_held_numbers :
    FirstFree counterAfter [4294967295, 1, 2] 4294967295 3 ∧
      advancePast counterAfter [4294967295, 1, 2] 3 (counterAfter 4294967295) = 3 :=
  ⟨⟨by decide, 2, rfl, by decide⟩, by decide⟩

theorem witness_ReadingsArmAndEnd :
    survey.gate.state = .idle ∧ ({ reading with accepted := 4 } : Reading).accepted = reading.n ∧
    ({ reading with attempts := 6 } : Reading).attempts = reading.n + reading.r ∧ reading.accepted ≠ reading.n ∧
    reading.attempts ≠ reading.n + reading.r ∧ survey.level.state = .level ∧ ready.level.state = .unlevel ∧
    ({ reading with accepted := 1 } : Reading).accepted < reading.m ∧ reading.m ≤ ({ reading with accepted := 2 } : Reading).accepted := by
  decide +kernel

/-- The engine idle with one entry queued, under a settle interval and a level state. -/
def waiting (settle : Int) (lv : LevelState) : State :=
  { survey with
    model := { survey.model with groups := { groups with gate := { groups.gate with settle := settle } } }
    level := { survey.level with state := lv }
    engine := { Engine.reset with queue := [⟨41, .b, 318, 4, 2, 2, 14⟩], nextTicket := 42 } }

/-- A reading in a given state, at a level state. -/
def readingIn (st : ReadingState) (lv : LevelState) : State :=
  { survey with
    level := { survey.level with state := lv }
    engine := { Engine.reset with reading := some { reading with state := st }, nextTicket := 41 } }

theorem witness_ReadingsStart :
    gating.engine.reading ≠ none ∧ survey.engine.queue = [] ∧
    (∀ settle ∈ [0, 600], ∀ lv ∈ [LevelState.level, .unlevel], let s := waiting settle lv
      s.engine.reading = none ∧ s.engine.queue = [⟨41, .b, 318, 4, 2, 2, 14⟩] ∧ s.model.groups.gate.settle = settle ∧
        s.level.state = lv ∧ s.occupation 318 = some ⟨318, 1207, .isOpen, some 700003000, none, []⟩) ∧
    (∀ due ∈ [60000000, 60000001], ∀ lv ∈ [LevelState.level, .unlevel],
      (readingIn (.settling due) lv).engine.reading = some { reading with state := .settling due } ∧
      (readingIn (.waitLevel due) lv).engine.reading = some { reading with state := .waitLevel due } ∧
      (readingIn (.settling due) lv).level.state = lv) ∧
    survey.now = 60000000 ∧ survey.engine.reading = none := by decide +kernel

/-- A level notice waiting. -/
def noticed (s : State) (l : LevelState) : State := { s with engine := { s.engine with levelNotices := [l] } }

theorem witness_LevelNoticesAct :
    survey.engine.levelNotices = [] ∧ (noticed survey .level).engine.reading = none ∧
    (∀ l ∈ [LevelState.level, .unlevel], ∀ st ∈ [ReadingState.settling 1, .waitLevel 1, .gating (.outstanding 1),
      .gating (.awaiting heldGate)], (noticed (readingIn st .level) l).engine.levelNotices = [l] ∧
        (noticed (readingIn st .level) l).engine.reading = some { reading with state := st }) ∧
    (noticed gating .unlevel).gate.state = .counting ∧ (noticed (readingIn (.gating (.outstanding 1)) .level) .unlevel).gate.state = .idle ∧
    (survey.armGate .engine 14).gate.state = .armed ∧ reading.attempts + 1 ≠ reading.n + reading.r ∧
    ({ reading with attempts := 5 } : Reading).attempts + 1 = reading.n + reading.r := by decide +kernel

/-- A completion and a timeout report handed over, with the accumulator and the kept reports as given. -/
def reported (acc : GateAccumulator) (frames : List GateFrame) (kept : List ThermalReport) : State :=
  { gating with
    gate := { counting with state := .idle, armer := none, limitDue := none }
    engine := { gating.engine with
      acc := acc, frames := frames, kept := kept, reports := [.timeout 1 14 none, .completion heldGate.report] } }

/-- The accumulator after two frames. -/
def accumulated : GateAccumulator := ⟨2, 20001, -6000, 10000, 10001, -3000, -3000, some 1⟩

theorem witness_GateReportsAreTaken :
    survey.engine.frames = [] ∧ survey.engine.reports = [] ∧
    (let s := reported accumulated [⟨2, frame⟩, ⟨1, frame⟩] [report]
     s.engine.frames = [⟨2, frame⟩, ⟨1, frame⟩] ∧ s.engine.reading = some reading ∧
       reading.state ≠ .gating (.outstanding 2) ∧ (∃ f ∈ s.engine.frames, f.gate = 1)) ∧
    (reported .none [⟨1, frame⟩] []).engine.frames = [⟨1, frame⟩] ∧ reading.state = .gating (.outstanding 1) ∧
    (GateAccumulator.none).n = 0 ∧ 0 < accumulated.n ∧
    (let s := reported accumulated [⟨2, frame⟩] [report]
     s.engine.reports = [] ++ .timeout 1 14 none :: [.completion heldGate.report] ∧
     s.engine.reports = [.timeout 1 14 none] ++ .completion heldGate.report :: [] ∧ (∀ f ∈ s.engine.frames, f.gate ≠ 1) ∧
     s.engine.acc.thermalFrame = some 1 ∧ s.engine.kept.find? (fun t => decide (t.frame = 1)) = some report) ∧
    (let s := reported .none [] []
     s.engine.acc.thermalFrame = none ∧ s.scan.latest = some frame ∧ ∀ t ∈ s.engine.kept, t.frame ≠ 1) := by decide +kernel

/-- The band 50,000,000 to 90,000,000 and the motion limit 5,000 at their ends, the outlier limit 1,000. -/
theorem witness_GatesAreEvaluated :
    (∀ raw ∈ [49999999, 90000001], raw < groups.gate.rawLow ∨ groups.gate.rawHigh < raw) ∧
    (∀ raw ∈ [50000000, 90000000], groups.gate.rawLow ≤ raw ∧ raw ≤ groups.gate.rawHigh) ∧
    (0 < groups.tilt.motionLimit ∧ groups.tilt.motionLimit < 5001) ∧ ¬(groups.tilt.motionLimit < 5000) ∧
    ¬(groups.tilt.motionLimit < heldGate.spreadX ∨ groups.tilt.motionLimit < heldGate.spreadY) ∧
    report.saturated = false ∧ report.window = .inside ∧
    lookup groups.cali.toList heldGate.report.raw = some (271947356, false) ∧
    gating.station reading.station = some ⟨1207, 0, none, 1, some 318⟩ ∧ report.baseline = some 450210 ∧
    ¬(3 ≤ reading.accepted) ∧ groups.gate.outlierLimit < ((271942860 - 271941859 : Int).natAbs : Int) ∧
    (let r : Reading := { reading with accepted := 3, attempts := 3, sums := { Sums.zero with s := 3 * 271941859 } }
     3 ≤ r.accepted ∧ roundDiv r.sums.s r.accepted = 271941859) := by decide +kernel

/-- A thermal report handed over. -/
def thermalHanded (s : State) : State := { s with engine := { s.engine with thermalReports := [report] } }

theorem witness_NoticesMarkTheReading :
    survey.engine.thermalReports = [] ∧ (thermalHanded survey).engine.reading = none ∧
    (∀ st ∈ [ReadingState.settling 1, .waitLevel 1, .gating (.outstanding 1), .gating (.awaiting heldGate),
      .gating (.awaiting { heldGate with thermalFrame := 2 })],
      (thermalHanded (readingIn st .level)).engine.thermalReports = [report] ∧
      (thermalHanded (readingIn st .level)).engine.reading = some { reading with state := st }) ∧
    heldGate.thermalFrame = report.frame ∧ ({ heldGate with thermalFrame := 2 } : HeldGate).thermalFrame ≠ report.frame ∧
    survey.engine.stepNotices = 0 ∧ (preloaded.tick 1).engine.stepNotices = 0 + 1 ∧ preloaded.engine.reading = none ∧
    (let s : State := { gating with engine := { gating.engine with stepNotices := 1 } }
     s.engine.stepNotices = 0 + 1 ∧ s.engine.reading = some reading ∧ reading.firstGateArmed = true) := by decide +kernel

theorem witness_RdcnCancels :
    gating.takes .a ∧ gating.takes .b ∧ gating.engine.queue = [] ++ ⟨41, .b, 318, 4, 2, 2, 14⟩ :: [] ∧
    (gating.engine.queue.map (·.ticket)).Nodup ∧ u16At [41, 0] 0 = 41 ∧ gating.engine.reading = some reading ∧
    (∀ q ∈ gating.engine.queue, q.ticket ≠ 40) ∧ reading.ticket = 40 ∧ reading.port = .a ∧
    (∀ q ∈ gating.engine.queue, q.ticket ≠ 42) ∧ reading.ticket ≠ 42 ∧ reading.state = .gating (.outstanding 1) ∧
    gating.gate.state ≠ .idle := by decide +kernel

theorem gating_counts_add_up : gating.CountsAddUp :=
  ⟨by decide +kernel, fun r h => by cases h; decide, by decide +kernel⟩

theorem witness_StepKeepsReadingsInBounds :
    gating.engine.TicketsDistinct ∧ gating.CountsAddUp ∧ (withResults gating 6).ResultsInRange ∧
    ∃ t, step (holding (withResults gating 6) .completionEdge) = .next t := by
  refine ⟨⟨by decide, by decide, by decide, by decide, by decide⟩, gating_counts_add_up, ⟨?_, ?_, by decide, by decide, ?_⟩, _, rfl⟩
  · intro o ho x hx
    have ho' : o = ⟨318, 1207, .isOpen, some 700003000, none, List.replicate 6 result⟩ := by simpa [withResults] using ho
    subst ho'
    obtain rfl : x = result := List.eq_of_mem_replicate hx
    exact ⟨by decide, by decide, by decide, by decide, by decide, by decide⟩
  · intro r h
    cases h
    exact ⟨⟨by decide, by decide, by decide, by decide, by decide, by decide, by decide⟩, by decide⟩
  · intro i h
    cases h

theorem witness_StationRequests :
    survey.takes .a ∧ survey.takes .b ∧
    (∀ n ∈ [0, 65535], ¬(1 ≤ n ∧ n ≤ 65534)) ∧ (∀ v ∈ [-180000001, 180000001], ¬Within (-180000000) 180000000 v) ∧
    (∀ v ∈ [-180000000, 180000000], Within (-180000000) 180000000 v) ∧
    (1 : Nat) < u8At [1, 0, 0, 0, 0, 0, 2, 0, 0] 6 ∧ u8At [1, 0, 0, 0, 0, 0, 1, 0, 0x80] 6 = 1 ∧
    32767 < u16At [1, 0, 0, 0, 0, 0, 1, 0, 0x80] 7 ∧ (survey.model.groups.window .a).holds 1 = true ∧
    (survey.model.groups.window .a).holds 65534 = true ∧
    survey.station 1207 = some ⟨1207, 0, none, 1, some 318⟩ ∧ survey.occupations.entries.countP (fun o => decide (o.station = 1207)) = 1 ∧
    ({ survey with occupations := ⟨[], 319, []⟩ } : State).occupations.entries.countP (fun o => decide (o.station = 1207)) = 0 ∧
    survey.station 1 = none ∧ survey.stations.length ≠ 120 ∧
    ({ survey with stations := (List.range 120).map fun i => ⟨2 + i, 0, none, 0, none⟩ } : State).stations.length = 120 ∧
    ({ survey with stations := (List.range 120).map fun i => ⟨2 + i, 0, none, 0, none⟩ } : State).station 1 = none := by
  decide +kernel

/-- A station without an open occupation beside twelve entries, or eleven. -/
def occupied (n : Nat) : State :=
  { survey with
    stations := [⟨1207, 0, none, 255, none⟩]
    occupations := ⟨(List.range n).map fun i => ⟨i + 1, 1207, .staged, none, some 1, []⟩, 4294967295, []⟩ }

theorem witness_OccupationRequests :
    (occupied 12).takes .a ∧ (occupied 12).occupations.entries.length = 12 ∧ (occupied 11).occupations.entries.length ≠ 12 ∧
    (occupied 11).station 1207 = some ⟨1207, 0, none, 255, none⟩ ∧ survey.station 1207 = some ⟨1207, 0, none, 1, some 318⟩ ∧
    (occupied 11).occupations.entries.length < 12 ∧
    survey.clock.time = .set ∧ ready.clock.time = .unset ∧
    survey.occupation 318 = some ⟨318, 1207, .isOpen, some 700003000, none, []⟩ ∧ survey.engine.pendingAt 318 = 0 ∧
    gating.engine.pendingAt 318 = 2 ∧ 0 < gating.engine.pendingAt 318 ∧
    ((withResults survey 8).occupation 318).map (fun o => (o.state, o.results.length)) = some (.isOpen, 8) ∧
    ((occupied 1).occupation 1).map (·.state) = some .staged ∧ survey.occupation 0 = none ∧
    (let s : State := { survey with occupations := ⟨[⟨318, 1207, .closed, none, some 5, [result]⟩], 319, [318]⟩ }
     (s.occupation 318).map (·.state) = some .closed) := by decide +kernel

theorem gating_tables_agree : gating.TablesAgree := by
  refine ⟨by decide, by decide, by decide, by decide, ?_, ⟨by decide, ?_⟩, ⟨by decide, ?_⟩, by decide, by decide +kernel,
    by decide, ?_, by decide⟩
  · intro t ht n
    obtain rfl : t = ⟨1207, 0, none, 1, some 318⟩ := by simpa [gating, survey] using ht
    simp [gating, survey, eq_comm]
  · intro n; simp [gating, survey]
  · intro n; simp [gating, survey, ready, Archive.staged, Archive.reset, StagingBuffer.occupation]
  · intro r h; cases h; decide

theorem witness_StepKeepsTablesAgree : gating.TablesAgree ∧ ∃ t, step (holding gating (.occl .b 1 (u32 318))) = .next t :=
  ⟨gating_tables_agree, _, rfl⟩

/-- Occupation 318 closed at the head of the archive queue, the archive idle. -/
def closed : State :=
  { survey with
    stations := [⟨1207, 0, none, 1, none⟩]
    occupations := ⟨[⟨318, 1207, .closed, some 700003000, some 700004000, [result]⟩], 319, [318]⟩ }

/-- The archive idle with one buffer loaded. -/
def loaded (b : BufferId) : State :=
  { programming with archive := { (programming.archive.setBuffer b (.loaded (record 318))) with activity := .idle, loadOrder := [b] } }

theorem witness_ArchiveWorks :
    State.reset.archive.state = .mounting ∧ survey.occupations.archiveQueue = [] ∧
    (programming.archive.buffer0 ≠ .free ∧ programming.archive.buffer1 ≠ .free) ∧
    closed.occupations.archiveQueue = 318 :: [] ∧ closed.archive.state ≠ .mounting ∧
    closed.occupation 318 = some ⟨318, 1207, .closed, some 700003000, some 700004000, [result]⟩ ∧
    closed.station 1207 = some ⟨1207, 0, none, 1, none⟩ ∧ closed.archive.buffer0 = .free ∧
    (let s : State := { closed with archive := { closed.archive with buffer0 := .loaded (record 300) } }
     s.archive.buffer0 ≠ .free ∧ s.archive.buffer1 = .free) ∧
    survey.archive.activity = .idle ∧ survey.model.storeOutstanding = false ∧
    ({ survey with model := { survey.model with storeOutstanding := true } } : State).model.storeOutstanding = true ∧
    (∀ b ∈ [BufferId.b0, .b1], (loaded b).archive.activity = .idle ∧ (loaded b).archive.state = .ready ∧
      (loaded b).archive.loadOrder = b :: [] ∧ (loaded b).archive.buffer b = .loaded (record 318)) ∧
    ({ survey with archive := { survey.archive with activity := .store } } : State).archive.activity = .store ∧
    survey.archive.activity ≠ .store ∧ survey.archive.activity ≠ .program ∧ programming.archive.activity = .program ∧
    programming.archive.buffer0 = .programming (record 318) ∧ programming.archive.failureCount = 0 ∧
    ({ programming.archive with failureCount := 1 } : Archive).failureCount ≠ 0 ∧
    ({ programming.archive with buffer0 := .free, buffer1 := .programming (record 318) } : Archive).buffer1 = .programming (record 318) ∧
    (4095 ≤ ({ programming.archive with writePage := 4095 } : Archive).writePage ∧ programming.model.groups.wrap = false) ∧
    ¬(4095 ≤ ({ programming.archive with writePage := 4094 } : Archive).writePage) := by decide +kernel

theorem witness_ArchiveRequests :
    survey.takes .a ∧ survey.archive.state ≠ .fault ∧
    ({ survey with archive := { survey.archive with state := .fault, writePage := 4095 } } : State).archive.state = .fault ∧
    survey.model.groups.wrap = false ∧ 4094 < 4095 ∧ 4096 ≤ u16At [0, 0, 0x10] 1 ∧ u16At [0, 0xFF, 0x0F] 1 < 4096 ∧
    (2 : Nat) < u8At [3, 0, 0] 0 ∧ survey.flash.newest = none ∧ survey.flash.oldest = none ∧
    (let f := Flash.commit (Flash.commit ⟨[], none⟩ 3 (record 318)) 4095 (record 12)
     f.newest = some (3, 318) ∧ f.oldest = some (4095, 12) ∧ f.condition 3 = .valid ∧ f.condition 4 = .erased ∧
       (f.beginProgram 3 (record 12)).condition 3 = .invalid) ∧
    programming.archive.activity = .program ∧ programming.archive.cursor .a = programming.archive.writePage ∧
    programming.archive.cursor .b ≠ programming.archive.writePage ∧ programming.archive.cursor .b = 4095 ∧
    survey.archive.activity ≠ .program := by decide +kernel

theorem committed_cells_wf (p : Nat) (r : StagedRecord) : CellsWf (Flash.commit ⟨[], none⟩ p r).cells :=
  Flash.commit_wf (f := ⟨[], none⟩) ⟨.nil, fun _ h => by cases h⟩ p r

theorem witness_PagesHoldRecords :
    CellsWf (Flash.commit ⟨[], none⟩ 3 (record 318)).cells ∧
    ({ record 318 with results := List.replicate 8 result } : StagedRecord).results.length ≤ 8 ∧ (4 : Nat) ≠ 3 :=
  ⟨committed_cells_wf .., by decide, by decide⟩

theorem witness_StepKeepsTheFlashForm :
    (∃ t, step (holding { programming with flash := Flash.commit ⟨[], none⟩ 3 (record 12) } .pageProgramSuccess) = .next t) ∧
    CellsWf (Flash.commit ⟨[], none⟩ 3 (record 12)).cells ∧ programming.archive.InRange :=
  ⟨⟨_, rfl⟩, committed_cells_wf .., by decide⟩

theorem witness_SoundStatesNeverStop : (holding gating .completionReport).Sound ∧
    ∃ t, step (holding gating .completionReport) = .next t := by
  refine ⟨⟨⟨?_, ?_, ?_, ?_, ?_, ?_, ?_, ?_, ?_, ?_, ?_, ?_⟩, ⟨?_, ?_, ?_, ?_, ?_, ?_⟩, nofun, ?_⟩, _, rfl⟩
  · exact gating_tables_agree.stations
  · exact gating_tables_agree.occupations
  · exact gating_tables_agree.counter
  · exact gating_tables_agree.named
  · exact gating_tables_agree.opened
  · exact gating_tables_agree.queue
  · exact gating_tables_agree.staged
  · exact gating_tables_agree.closed
  · exact gating_tables_agree.places
  · exact gating_tables_agree.queued
  · exact gating_tables_agree.inFlight
  · exact gating_tables_agree.loading
  · exact fun _ => by decide +kernel
  all_goals first | exact ⟨by decide, by decide, fun t h => nomatch h⟩ | (intro h; rcases h with h | h <;> cases h) | (intros; contradiction)

end Sys2Proof.Tests
end

section
/-!
PROOFS. Chapter 2: the tilt correction is the nearest integer to its quotient (R29), and the Level Monitor's judgement of a
frame in UNLEVEL and in LEVEL (R22, R23, R24).
-/

namespace Sys2Proof.Machine

/-! ### The tilt correction -/

/-- Away from zero is up when the dividend is not negative: `roundDiv_tie` makes the upper bound of `roundDiv_near` strict. -/
theorem roundDiv_half_up {n : Int} {d : Nat} (hd : 0 < d) (hn : 0 ≤ n) :
    d * (2 * roundDiv n d - 1) ≤ 2 * n ∧ 2 * n < d * (2 * roundDiv n d + 1) := by
  obtain ⟨upper, lower⟩ := roundDiv_near n hd
  have tie := roundDiv_tie n hd
  have nonneg : 0 ≤ (d : Int) * roundDiv n d := mul_nonneg (Int.natCast_nonneg d) (roundDiv_nonneg d hn)
  rw [mul_sub, mul_add, mul_left_comm]
  generalize (d : Int) * roundDiv n d = p at *
  omega

/-- The dividend of R29 lies in 0..984,000 × 2 × 10¹² for kept tilts. -/
theorem tiltDividend_within {g0 tx ty : Int} (hg : Within 976000 984000 g0) (hx : Within (-1000000) 1000000 tx)
    (hy : Within (-1000000) 1000000 ty) : Within 0 1968000000000000000 (g0 * (tx ^ 2 + ty ^ 2)) := by
  have x2 : tx ^ 2 ≤ 1000000 ^ 2 := sq_le_sq' hx.1 hx.2
  have y2 : ty ^ 2 ≤ 1000000 ^ 2 := sq_le_sq' hy.1 hy.2
  have sum_nonneg : 0 ≤ tx ^ 2 + ty ^ 2 := by positivity
  refine ⟨mul_nonneg (le_trans (by decide) hg.1) sum_nonneg, ?_⟩
  calc g0 * (tx ^ 2 + ty ^ 2) ≤ 984000 * (1000000 ^ 2 + 1000000 ^ 2) :=
        mul_le_mul hg.2 (add_le_add x2 y2) sum_nonneg (by decide)
    _ = 1968000000000000000 := by norm_num

/-- A dividend that the tilts of R29 can give rounds to a correction of at most 9,840,000. -/
theorem roundDiv_tiltDividend_within {n : Int} (h : Within 0 1968000000000000000 n) :
    Within 0 9840000 (roundDiv n 200000000000) := by
  have lower := (roundDiv_half_up (d := 200000000000) (by decide) h.1).1
  exact ⟨roundDiv_nonneg _ h.1, by have := h.2; omega⟩

/-- The clamp of R29 changes no correction of kept tilts. -/
theorem tiltCorrection_eq_roundDiv {g0 tx ty : Int} (h : Within 0 1968000000000000000 (g0 * (tx ^ 2 + ty ^ 2))) :
    tiltCorrection g0 tx ty = roundDiv (g0 * (tx ^ 2 + ty ^ 2)) 200000000000 := by
  obtain ⟨low, high⟩ := roundDiv_tiltDividend_within h
  rw [tiltCorrection, ← sq, ← sq]
  exact clampInt_of_within (le_trans (by decide) low) (le_trans high (by decide))

/-- Settles O30: the clamp of R29 is without effect, and the rounding is half up. -/
theorem tiltCorrectionIsNearest : Obligations.TiltCorrectionIsNearest := by
  intro g0 tx ty hg hx hy
  have dividend := tiltDividend_within hg hx hy
  obtain ⟨lower, upper⟩ := roundDiv_half_up (d := 200000000000) (by decide) dividend.1
  rw [tiltCorrection_eq_roundDiv dividend]
  exact ⟨lower, upper, roundDiv_tiltDividend_within dividend⟩

/-! ### The judgement of a frame -/

theorem TiltGroup.entryBound_eq_sq (g : TiltGroup) :
    g.entryBound = if g.hysteresis < g.threshold then (g.threshold - g.hysteresis) ^ 2 else 0 := by
  rw [entryBound, sq]

theorem TiltGroup.leaveBound_eq_sq (g : TiltGroup) : g.leaveBound = (g.threshold + g.hysteresis) ^ 2 := (sq _).symm

section
variable {s : State} {f : Frame} {fs : List Frame}

/-- The monitor with the oldest waiting frame taken, before the frame is judged (R22, R23). -/
def State.levelTaken (s : State) (f : Frame) (fs : List Frame) : State :=
  { s with level := { s.level.store s.model.groups.tilt f with frames := fs, taken := true } }

theorem State.levelFrame_of_unlevel (hs : s.level.state = .unlevel) :
    s.levelFrame f = (s.levelTaken f s.level.frames).judgeUnlevel f := by
  rw [State.levelFrame, hs]; rfl

theorem State.levelFrame_of_level (hs : s.level.state = .level) :
    s.levelFrame f = (s.levelTaken f s.level.frames).judgeLevel f := by
  rw [State.levelFrame, hs]; rfl

theorem exec_levelMonitorFrame_cons (hf : s.level.frames = f :: fs) :
    exec .levelMonitorFrame s = .next (State.levelFrame { s with level := { s.level with frames := fs } } f) := by
  change execLevelMonitorFrame s = _
  rw [execLevelMonitorFrame, hf]

theorem exec_levelMonitorFrame_of_unlevel (hf : s.level.frames = f :: fs) (hs : s.level.state = .unlevel) :
    exec .levelMonitorFrame s = .next ((s.levelTaken f fs).judgeUnlevel f) :=
  (exec_levelMonitorFrame_cons hf).trans (congrArg Host.Outcome.next (State.levelFrame_of_unlevel hs))

theorem exec_levelMonitorFrame_of_level (hf : s.level.frames = f :: fs) (hs : s.level.state = .level) :
    exec .levelMonitorFrame s = .next ((s.levelTaken f fs).judgeLevel f) :=
  (exec_levelMonitorFrame_cons hf).trans (congrArg Host.Outcome.next (State.levelFrame_of_level hs))

/-- A frame meets the entry condition of R22: neither tilt channel saturated, m at most the entry bound. -/
def TiltGroup.Enters (g : TiltGroup) (f : Frame) : Prop :=
  f.satX = false ∧ f.satY = false ∧ (g.tilts f).m ≤ g.entryBound

/-- The test that `judgeUnlevel` makes is the entry condition. -/
theorem TiltGroup.enters_iff (g : TiltGroup) (f : Frame) :
    (!f.satX && !f.satY && decide ((g.tilts f).m ≤ g.entryBound)) = true ↔ g.Enters f := by
  simp [Enters, and_assoc]

/-- Any other frame makes the count 0 (R22). -/
theorem State.judgeUnlevel_of_not_enters (h : ¬s.model.groups.tilt.Enters f) :
    s.judgeUnlevel f = { s with level := { s.level with debounce := 0 } } :=
  if_neg fun test => h ((TiltGroup.enters_iff ..).1 test)

/-- The frame counts towards the debounce (R22). -/
theorem State.judgeUnlevel_of_enters (h : s.model.groups.tilt.Enters f)
    (hd : s.level.debounce + 1 ≠ s.model.groups.tilt.debounce) :
    s.judgeUnlevel f = { s with level := { s.level with debounce := s.level.debounce + 1 } } :=
  (if_pos ((TiltGroup.enters_iff ..).2 h)).trans (if_neg hd)

/-- The D-th frame in a row makes the state LEVEL, and the change is reported (R22, R24). -/
theorem State.judgeUnlevel_of_enters_last (h : s.model.groups.tilt.Enters f)
    (hd : s.level.debounce + 1 = s.model.groups.tilt.debounce) :
    s.judgeUnlevel f =
      State.postBoth
        { s with
          level := { s.level with debounce := s.level.debounce + 1, state := .level }
          engine := { s.engine with levelNotices := s.engine.levelNotices ++ [.level] } }
        (.levl .level .entered s.level.tilts) :=
  (if_pos ((TiltGroup.enters_iff ..).2 h)).trans (if_pos hd)

/-- An unsaturated frame at or below the leave bound changes nothing more (R23). -/
theorem State.judgeLevel_of_stays (hx : f.satX = false) (hy : f.satY = false)
    (hm : (s.model.groups.tilt.tilts f).m ≤ s.model.groups.tilt.leaveBound) : s.judgeLevel f = s := by
  simp [State.judgeLevel, hx, hy, hm]

/-- A saturated frame, or one above the leave bound, makes the state UNLEVEL, and the change is reported (R23, R24). -/
theorem State.judgeLevel_of_leaves {cause : LevlCause}
    (h : ((f.satX = true ∨ f.satY = true) ∧ cause = .saturated) ∨
      (f.satX = false ∧ f.satY = false ∧ s.model.groups.tilt.leaveBound < (s.model.groups.tilt.tilts f).m ∧
        cause = .exceeded)) :
    s.judgeLevel f =
      State.postBoth
        { s with
          level := { s.level with state := .unlevel, debounce := 0 }
          engine := { s.engine with levelNotices := s.engine.levelNotices ++ [.unlevel] } }
        (.levl .unlevel cause s.level.tilts) := by
  rcases h with ⟨saturated, rfl⟩ | ⟨hx, hy, exceeded, rfl⟩
  · exact if_pos (by simpa using saturated)
  · exact (if_neg (by simp [hx, hy])).trans (if_pos exceeded)

end

/-- Settles O27: the frame is taken in its state's branch, and each clause is one case of the judgement there. -/
theorem levelFramesAreJudged : Obligations.LevelFramesAreJudged := by
  rintro s f fs hf g x y u rfl rfl rfl rfl
  rw [← TiltGroup.entryBound_eq_sq, ← TiltGroup.leaveBound_eq_sq]
  refine ⟨fun unlevel => ?_, fun level => ?_⟩
  · rw [exec_levelMonitorFrame_of_unlevel hf unlevel]
    refine ⟨fun other => ?_, fun satX satY bound => ⟨fun more => ?_, fun last => ?_⟩⟩
    · exact congrArg _ (State.judgeUnlevel_of_not_enters other)
    · exact congrArg _ (State.judgeUnlevel_of_enters ⟨satX, satY, bound⟩ more)
    · exact congrArg _ (State.judgeUnlevel_of_enters_last ⟨satX, satY, bound⟩ last)
  · rw [exec_levelMonitorFrame_of_level hf level]
    refine ⟨fun satX satY bound => ?_, fun cause leaves => ?_⟩
    · exact congrArg _ (State.judgeLevel_of_stays satX satY bound)
    · exact congrArg _ (State.judgeLevel_of_leaves leaves)

end Sys2Proof.Machine
end

section
/-!
PROOFS. Chapter 3: the Thermal Tracker's baseline after a frame (R35 to R39), its window and its report (R40, R41).
-/

namespace Sys2Proof.Machine

/-! ### The baseline fields after a frame -/

section
variable {t : ThermalTracker} {g : ThrmGroup} {temp old : Int}

/-- A saturated frame holds the baseline (R35). -/
theorem ThermalTracker.track_of_saturated : t.track g temp true = (t, false) := rfl

/-- A frame without a baseline begins one (R36). -/
theorem ThermalTracker.track_of_no_baseline (hb : t.baseline = none) :
    t.track g temp false = ({ t with baseline := some temp, bucket := 0, lowCount := 0 }, false) := by
  simp [track, hb]

/-- A followed rise that fills the bucket steps the baseline (R37). -/
theorem ThermalTracker.track_of_rise_full (hb : t.baseline = some old) (rise : old < temp)
    (follows : temp - old ≤ g.nUp ∨ g.followAlways = true) (full : g.bucketLimit ≤ t.bucket + (temp - old)) :
    t.track g temp false =
      ({ t with baseline := some (min (old + g.step) 1000000), bucket := 0, lowCount := 0 }, false) := by
  simp only [track, hb, Int.sub_pos.2 rise, if_pos follows, if_pos full]; rfl

/-- A followed rise that leaves the bucket below U goes into the bucket (R37). -/
theorem ThermalTracker.track_of_rise_below (hb : t.baseline = some old) (rise : old < temp)
    (follows : temp - old ≤ g.nUp ∨ g.followAlways = true) (below : t.bucket + (temp - old) < g.bucketLimit) :
    t.track g temp false = ({ t with bucket := t.bucket + (temp - old), lowCount := 0 }, false) := by
  simp only [track, hb, Int.sub_pos.2 rise, if_pos follows, if_neg (not_le.2 below)]; rfl

/-- A rise that is not followed breaks the low count and no more (R37). -/
theorem ThermalTracker.track_of_rise_ignored (hb : t.baseline = some old) (rise : old < temp)
    (ignored : ¬(temp - old ≤ g.nUp ∨ g.followAlways = true)) :
    t.track g temp false = ({ t with lowCount := 0 }, false) := by
  simp only [track, hb, Int.sub_pos.2 rise, if_neg ignored]; rfl

/-- Every rise breaks the low count and makes no low reset (R37). -/
theorem ThermalTracker.track_rise_breaks_lowCount (hb : t.baseline = some old) (rise : old < temp) :
    (t.track g temp false).1.lowCount = 0 ∧ (t.track g temp false).2 = false := by
  by_cases follows : temp - old ≤ g.nUp ∨ g.followAlways = true
  · rcases le_or_gt g.bucketLimit (t.bucket + (temp - old)) with full | below
    · rw [track_of_rise_full hb rise follows full]; exact ⟨rfl, rfl⟩
    · rw [track_of_rise_below hb rise follows below]; exact ⟨rfl, rfl⟩
  · rw [track_of_rise_ignored hb rise follows]; exact ⟨rfl, rfl⟩

/-- A frame at the baseline breaks the low count and no more. -/
theorem ThermalTracker.track_of_at_baseline (hb : t.baseline = some temp) :
    t.track g temp false = ({ t with lowCount := 0 }, false) := by
  simp [track, hb]

/-- A fall within Ndown is followed (R38). -/
theorem ThermalTracker.track_of_small_fall (hb : t.baseline = some old) (fall : temp < old)
    (small : old - temp ≤ g.nDown) :
    t.track g temp false = ({ t with baseline := some temp, bucket := 0, lowCount := 0 }, false) := by
  have negative : temp - old < 0 := Int.sub_neg_of_lt fall
  simp only [track, hb, if_neg negative.not_gt, if_neg negative.ne, neg_sub, if_pos small]; rfl

/-- The L-th larger fall makes a low reset (R39). -/
theorem ThermalTracker.track_of_low_reset (hb : t.baseline = some old) (fall : temp < old)
    (large : (g.nDown : Int) < old - temp) (last : t.lowCount + 1 = g.lowFrames) :
    t.track g temp false = ({ t with baseline := some temp, bucket := 0, lowCount := 0 }, true) := by
  have negative : temp - old < 0 := Int.sub_neg_of_lt fall
  simp only [track, hb, if_neg negative.not_gt, if_neg negative.ne, neg_sub, if_neg (not_le.2 large), if_pos last]; rfl

/-- A larger fall before the L-th counts (R39). -/
theorem ThermalTracker.track_of_large_fall (hb : t.baseline = some old) (fall : temp < old)
    (large : (g.nDown : Int) < old - temp) (more : t.lowCount + 1 ≠ g.lowFrames) :
    t.track g temp false = ({ t with lowCount := t.lowCount + 1 }, false) := by
  have negative : temp - old < 0 := Int.sub_neg_of_lt fall
  simp only [track, hb, if_neg negative.not_gt, if_neg negative.ne, neg_sub, if_neg (not_le.2 large), if_neg more]; rfl

/-- The frames still waiting play no part in tracking. -/
theorem ThermalTracker.track_with_frames (t : ThermalTracker) (g : ThrmGroup) (temp : Int) (saturated : Bool)
    (fs : List Frame) :
    ({ t with frames := fs } : ThermalTracker).track g temp saturated =
      ({ (t.track g temp saturated).1 with frames := fs }, (t.track g temp saturated).2) := by
  obtain ⟨_, _, baseline, _, _, _, _⟩ := t
  cases saturated with
  | true => rfl
  | false =>
    cases baseline with
    | none => rfl
    | some old => unfold track; dsimp only; split_ifs <;> rfl

end

/-! ### The window, and the frame taken -/

theorem ThrmGroup.judge_eq_inside_iff (g : ThrmGroup) (temp : Int) (saturated : Bool) :
    g.judge temp saturated = .inside ↔ saturated = false ∧ ((temp - g.setPoint).natAbs : Int) ≤ g.window := by
  cases saturated <;> simp [judge]

/-- The temperature and the window a frame gives are stored with the tracked fields, the report is handed to the engine
(R40), and a changed window is posted (R41). -/
theorem exec_thermalTrackerFrame_of_tracked {s : State} {f : Frame} {fs : List Frame} {t : ThermalTracker} {reset : Bool}
    (hf : s.thermal.frames = f :: fs) {g : ThrmGroup} {temp : Int} {w : WindowState} {u : State}
    (hg : g = s.model.groups.thrm) (htemp : temp = g.convert f.temp) (hw : w = g.judge temp f.satT)
    (tracked : s.thermal.track g temp f.satT = (t, reset))
    (hu : u = { s with
      thermal := { temp := some temp, saturated := f.satT, baseline := t.baseline, bucket := t.bucket,
                   lowCount := t.lowCount, window := w, frames := fs }
      engine := { s.engine with
        thermalReports := s.engine.thermalReports ++ [⟨f.id, temp, f.satT, t.baseline, w, reset⟩] } }) :
    exec .thermalTrackerFrame s = .next
      (if w = s.thermal.window then u
       else u.postBoth (.thrm w (if f.satT = true then .saturated else .range) (some temp) t.baseline)) := by
  subst hg htemp hw hu
  change execThermalTrackerFrame s = _
  simp only [execThermalTrackerFrame, hf, State.thermalFrame, ThermalTracker.track_with_frames, tracked]

/-- Settles O28: the fields after the frame are those that `track` gives, and each clause is one of its cases. -/
theorem thermalFramesAreTracked : Obligations.ThermalFramesAreTracked := by
  rintro s f fs hf g temp hg htemp
  obtain ⟨⟨t, reset⟩, tracked⟩ : ∃ p, s.thermal.track g temp f.satT = p := ⟨_, rfl⟩
  refine ⟨t.baseline, t.bucket, t.lowCount, reset, g.judge temp f.satT, _, fun sat => ?saturated,
    fun unsat first => ?first, fun old unsat hb => ⟨fun rise => ?rise, fun level => ?at_baseline,
      fun fall small => ?small, fun fall large => ⟨fun last => ?last, fun more => ?more⟩⟩,
    g.judge_eq_inside_iff temp f.satT, rfl, exec_thermalTrackerFrame_of_tracked hf hg htemp rfl tracked rfl⟩
  case saturated =>
    rw [sat, ThermalTracker.track_of_saturated] at tracked
    cases tracked; exact ⟨rfl, rfl, rfl, rfl⟩
  case first =>
    rw [unsat, ThermalTracker.track_of_no_baseline first] at tracked
    cases tracked; exact ⟨rfl, rfl, rfl, rfl⟩
  case rise =>
    rw [unsat] at tracked
    obtain ⟨low_broken, no_reset⟩ := tracked ▸ ThermalTracker.track_rise_breaks_lowCount (g := g) hb rise
    refine ⟨low_broken, no_reset, fun follows => ⟨fun full => ?_, fun below => ?_⟩, fun ignored => ?_⟩
    · rw [ThermalTracker.track_of_rise_full hb rise follows full] at tracked
      cases tracked; exact ⟨rfl, rfl⟩
    · rw [ThermalTracker.track_of_rise_below hb rise follows below] at tracked
      cases tracked; exact ⟨hb, rfl⟩
    · rw [ThermalTracker.track_of_rise_ignored hb rise ignored] at tracked
      cases tracked; exact ⟨hb, rfl⟩
  case at_baseline =>
    rw [unsat, ThermalTracker.track_of_at_baseline (level ▸ hb)] at tracked
    cases tracked; exact ⟨hb, rfl, rfl, rfl⟩
  case small =>
    rw [unsat, ThermalTracker.track_of_small_fall hb fall small] at tracked
    cases tracked; exact ⟨rfl, rfl, rfl, rfl⟩
  case last =>
    rw [unsat, ThermalTracker.track_of_low_reset hb fall large last] at tracked
    cases tracked; exact ⟨rfl, rfl, rfl, rfl⟩
  case more =>
    rw [unsat, ThermalTracker.track_of_large_fall hb fall large more] at tracked
    cases tracked; exact ⟨hb, rfl, rfl, rfl⟩

end Sys2Proof.Machine
end

section
/-!
PROOFS. Chapter 4: the judgement of a SECOND pulse in INTERNAL discipline (R50, R51) and in PULSE discipline (R52).
-/

namespace Sys2Proof.Machine

theorem goodInterval_iff {periods : Nat} : goodInterval periods = true ↔ 9999500 ≤ periods ∧ periods ≤ 10000500 := by
  rw [goodInterval, Bool.and_eq_true, decide_eq_true_iff, decide_eq_true_iff]; rfl

section
variable {s : State}

/-! ### INTERNAL discipline -/

/-- The pulse comes one second, within the tolerance, after the pulse before it (R50). -/
def State.FollowsPulse (s : State) : Prop :=
  ∃ d, s.clock.prevPulse = some d ∧ 9999500 ≤ s.now - d ∧ s.now - d ≤ 10000500

/-- The pulse taken as the previous one for the next (R50). -/
def State.pulseTaken (s : State) : State := { s with clock := { s.clock with prevPulse := some s.now } }

/-- A pulse half a second or more after the last tick date qualifies and ticks; CLCK gives the count the tick leaves
(R51). -/
theorem State.qualify_of_late (late : 5000000 ≤ s.now - s.clock.lastTick) {u : State}
    (hu : u = { s with clock := { s.clock with discipline := .pulse, good := 0 } }) :
    s.qualify =
      (u.postBoth (.clck .discipline .pulse (some .qualified) (some true) (u.tick s.now).clock.seconds none)).tick
        s.now := by
  subst hu
  exact if_pos late

/-- An earlier pulse qualifies and becomes the last tick date, without a tick (R51). -/
theorem State.qualify_of_early (early : s.now - s.clock.lastTick < 5000000) :
    s.qualify =
      State.postBoth { s with clock := { s.clock with discipline := .pulse, good := 0, lastTick := s.now } }
        (.clck .discipline .pulse (some .qualified) (some false) s.clock.seconds none) :=
  if_neg (Nat.not_le.2 early)

/-- Any other pulse, the first of all among them, breaks the row (R50). -/
theorem State.pulseInternal_of_not_follows (h : ¬s.FollowsPulse) :
    s.pulseInternal = { s with clock := { s.clock with prevPulse := some s.now, good := 0 } } := by
  rw [State.pulseInternal]
  cases previous : s.clock.prevPulse with
  | none => rfl
  | some d => exact if_neg fun good => h ⟨d, previous, goodInterval_iff.1 good⟩

/-- A good pulse before the third counts (R50). -/
theorem State.pulseInternal_of_follows (h : s.FollowsPulse) (more : s.clock.good + 1 ≠ 3) :
    s.pulseInternal = { s with clock := { s.clock with prevPulse := some s.now, good := s.clock.good + 1 } } := by
  obtain ⟨d, previous, good⟩ := h
  rw [State.pulseInternal, previous]
  exact (if_pos (goodInterval_iff.2 good)).trans (if_neg more)

/-- The third good pulse in a row qualifies (R51). -/
theorem State.pulseInternal_of_third (h : s.FollowsPulse) (third : s.clock.good + 1 = 3) :
    s.pulseInternal = s.pulseTaken.qualify := by
  obtain ⟨d, previous, good⟩ := h
  rw [State.pulseInternal, previous]
  exact (if_pos (goodInterval_iff.2 good)).trans (if_pos third)

theorem exec_secondPulseInternal_of_internal (h : s.clock.discipline = .internal) :
    exec .secondPulseInternal s = .next s.pulseInternal := by
  change Host.Outcome.next s.secondPulse = _
  rw [State.secondPulse, h]

/-! ### PULSE discipline -/

/-- A pulse one second, within the tolerance, after the last tick date ticks and clears both counts (R52). -/
theorem State.pulseDisciplined_of_good (good : 9999500 ≤ s.now - s.clock.lastTick ∧ s.now - s.clock.lastTick ≤ 10000500) :
    s.pulseDisciplined =
      State.tick { s with clock := { s.clock with prevPulse := some s.now, miss := 0, bad := 0 } } s.now :=
  if_pos (goodInterval_iff.2 good)

/-- A bad pulse before the third counts, and is no tick (R52). -/
theorem State.pulseDisciplined_of_bad
    (bad : ¬(9999500 ≤ s.now - s.clock.lastTick ∧ s.now - s.clock.lastTick ≤ 10000500)) (more : s.clock.bad + 1 ≠ 3) :
    s.pulseDisciplined = { s with clock := { s.clock with prevPulse := some s.now, bad := s.clock.bad + 1 } } :=
  (if_neg fun good => bad (goodInterval_iff.1 good)).trans (if_neg more)

/-- The third bad pulse returns the clock to INTERNAL, and CLCK is posted (R52, R54). -/
theorem State.pulseDisciplined_of_third_bad
    (bad : ¬(9999500 ≤ s.now - s.clock.lastTick ∧ s.now - s.clock.lastTick ≤ 10000500)) (third : s.clock.bad + 1 = 3) :
    s.pulseDisciplined =
      State.postBoth
        { s with clock := { s.clock with prevPulse := some s.now, discipline := .internal, miss := 0, bad := 0 } }
        (.clck .discipline .internal (some .badPulses) none s.clock.seconds none) :=
  (if_neg fun good => bad (goodInterval_iff.1 good)).trans (if_pos third)

theorem exec_secondPulseDisciplined_of_pulse (h : s.clock.discipline = .pulse) :
    exec .secondPulseDisciplined s = .next s.pulseDisciplined := by
  change Host.Outcome.next s.secondPulse = _
  rw [State.secondPulse, h]

end

/-- Settles O17: each clause is one case of the judgement in INTERNAL discipline, the last two the cases of `qualify`. -/
theorem pulsesQualify : Obligations.PulsesQualify := by
  intro s internal
  rw [exec_secondPulseInternal_of_internal internal]
  refine ⟨fun other => ?_, fun d previous low high => ?_⟩
  · exact congrArg _ (State.pulseInternal_of_not_follows other)
  · have follows : s.FollowsPulse := ⟨d, previous, low, high⟩
    refine ⟨fun more => ?_, fun third early => ?_, fun third late u hu => ?_⟩
    · rw [State.pulseInternal_of_follows follows more]
    · rw [State.pulseInternal_of_third follows third]
      exact congrArg _ (State.qualify_of_early (s := s.pulseTaken) early)
    · rw [State.pulseInternal_of_third follows third]
      exact congrArg _ (State.qualify_of_late (s := s.pulseTaken) late hu)

/-- Settles O18: a good pulse, a bad pulse and the third bad pulse are the three cases of the judgement in PULSE
discipline. -/
theorem pulsesTickOrCountAsBad : Obligations.PulsesTickOrCountAsBad := by
  intro s pulse
  rw [exec_secondPulseDisciplined_of_pulse pulse]
  refine ⟨fun low high => ?_, fun bad => ⟨fun more => ?_, fun third => ?_⟩⟩
  · rw [State.pulseDisciplined_of_good ⟨low, high⟩]
  · rw [State.pulseDisciplined_of_bad bad more]
  · rw [State.pulseDisciplined_of_third_bad bad third]

end Sys2Proof.Machine
end

section
/-!
PROOFS. Chapter 7: the evaluation of a gate, its checks in order (R103), its sample and the outlier check (R104), and the
reading it joins (R105).
-/

namespace Sys2Proof.Machine

/-! ### What each check decides -/

theorem GateGroup.outOfBand_iff (g : GateGroup) (raw : Nat) :
    g.outOfBand raw = true ↔ raw < g.rawLow ∨ g.rawHigh < raw := by
  simp [outOfBand]

theorem TiltGroup.moved_iff (g : TiltGroup) (h : HeldGate) :
    g.moved h = true ↔ 0 < g.motionLimit ∧ (g.motionLimit < h.spreadX ∨ g.motionLimit < h.spreadY) := by
  simp [moved]

theorem ThermalReport.untrusted_iff (t : ThermalReport) :
    t.untrusted = true ↔ t.saturated = true ∨ t.window = .outside := by
  simp [untrusted]

theorem Reading.outlier_iff (r : Reading) (limit v : Int) :
    r.outlier limit v = true ↔
      3 ≤ r.accepted ∧ 0 < limit ∧ limit < ((v - roundDiv r.sums.s r.accepted).natAbs : Int) := by
  simp [outlier, and_assoc]

/-! ### The evaluation, case by case -/

section
variable {s : State} {r : Reading} {h : HeldGate} {t : ThermalReport}

/-- The reading with the gate's attempt counted, before the checks (R103). -/
def Reading.attempted (r : Reading) : Reading := { r with attempts := r.attempts + 1 }

/-- A raw value outside the band drops the gate before any other check (R103). -/
theorem State.evaluate_of_outOfBand (out : s.model.groups.gate.outOfBand h.report.raw = true) :
    s.evaluate r h t = .next (s.gateOver.afterGate
      { r.attempted with drops := { r.drops with outOfBand := r.drops.outOfBand + 1 } }) :=
  if_pos out

/-- A tilt spread above the motion limit drops a gate within the band (R103). -/
theorem State.evaluate_of_moved (band : ¬s.model.groups.gate.outOfBand h.report.raw = true)
    (moved : s.model.groups.tilt.moved h = true) :
    s.evaluate r h t = .next (s.gateOver.afterGate
      { r.attempted with drops := { r.drops with motion := r.drops.motion + 1 } }) :=
  (if_neg band).trans (if_pos moved)

/-- A report that cannot be trusted drops a gate within the band and at rest (R103). -/
theorem State.evaluate_of_untrusted (band : ¬s.model.groups.gate.outOfBand h.report.raw = true)
    (still : ¬s.model.groups.tilt.moved h = true) (untrusted : t.untrusted = true) :
    s.evaluate r h t = .next (s.gateOver.afterGate
      { r.attempted with drops := { r.drops with thermal := r.drops.thermal + 1 } }) :=
  (if_neg band).trans ((if_neg still).trans (if_pos untrusted))

/-- A gate that passes the checks of R103 gives its sample, which the outlier check drops or the reading accepts (R104,
R105). -/
theorem State.evaluate_of_sample (band : ¬s.model.groups.gate.outOfBand h.report.raw = true)
    (still : ¬s.model.groups.tilt.moved h = true) (trusted : ¬t.untrusted = true)
    {gcal b : Int} {off : Bool} {st : Station} {x : Sample}
    (slot : lookup s.model.groups.cali.toList h.report.raw = some (gcal, off)) (station : s.station r.station = some st)
    (baseline : t.baseline = some b) (sample : x = computeSample s.model.groups st h t.temp b gcal off) :
    s.evaluate r h t =
      if r.outlier s.model.groups.gate.outlierLimit x.s = true then
        .next (s.gateOver.afterGate { r.attempted with drops := { r.drops with outlier := r.drops.outlier + 1 } })
      else .next (s.gateOver.afterGate (r.attempted.acceptGate h t.temp x)) := by
  subst sample
  have station_kept : s.gateOver.station r.station = some st := station
  refine (if_neg band).trans ((if_neg still).trans ((if_neg trusted).trans ?_))
  simp only [State.gateOver_frame, slot, station_kept, baseline]
  rfl

end

/-- Settles O48: each clause is one case of the evaluation, its premises the meaning of the checks there. -/
theorem gatesAreEvaluated : Obligations.GatesAreEvaluated := by
  rintro s u r a h t g rfl rfl rfl
  have band_iff := s.model.groups.gate.outOfBand_iff h.report.raw
  refine ⟨fun out => State.evaluate_of_outOfBand (band_iff.2 out), fun low high moved moved_iff => ?_⟩
  have band : ¬s.model.groups.gate.outOfBand h.report.raw = true := by rw [band_iff]; omega
  rw [← TiltGroup.moved_iff] at moved_iff
  refine ⟨fun moves => State.evaluate_of_moved band (moved_iff.1 moves),
    fun still distrust => State.evaluate_of_untrusted band (mt moved_iff.2 still) (t.untrusted_iff.2 distrust), ?_⟩
  rintro still unsaturated inside gcal b tilt thermal tide sum v mean off st time slot station baseline
    rfl rfl rfl rfl rfl rfl rfl
  have trusted : ¬t.untrusted = true := by simp [t.untrusted_iff, unsaturated, inside]
  rw [State.evaluate_of_sample band (mt moved_iff.2 still) trusted slot station baseline rfl]
  exact ⟨fun far => if_pos ((r.outlier_iff ..).2 far), fun near => if_neg (mt (r.outlier_iff ..).1 near)⟩

end Sys2Proof.Machine
end

section
/-!
PROOFS. What a command can do at most: every request is served by one rule (R161), and every command leaves the blocks of
the state outside its footprint as they were.
-/

namespace Sys2Proof.Machine

/-! ### The rule of a request -/

/-- The rule that answers a request; an event has none, and the value it gets here is never used. -/
def requestRule : Instr → State → Reply
  | .cgat p _ l => cgatReply p l
  | .cgrd _ _ l => cgrdReply l
  | .live _ _ l => liveReply l
  | .ckst _ _ l => ckstReply l
  | .ckrd _ _ l => ckrdReply l
  | .tdcp _ _ l => tdcpReply l
  | .mdwr _ _ l => mdwrReply l
  | .mdrd _ _ l => mdrdReply l
  | .setu _ _ l => setuReply l
  | .surv _ _ l => survReply l
  | .mdst _ _ l => mdstReply l
  | .rdrq p _ l => rdrqReply p l
  | .rdcn p _ l => rdcnReply p l
  | .rdqu _ _ l => rdquReply l
  | .stdf p _ l => stdfReply p l
  | .strm p _ l => strmReply p l
  | .strd _ _ l => strdReply l
  | .ocop p _ l => ocopReply p l
  | .occl p _ l => occlReply p l
  | .ocds p _ l => ocdsReply p l
  | .ocrd _ _ l => ocrdReply l
  | .arrt _ _ l => arrtReply l
  | .arsk p _ l => arskReply p l
  | .arnx p _ l => arnxReply p l
  | .arst p _ l => arstReply p l
  | .evrd p _ l => evrdReply p l
  | .evak p _ l => evakReply p l
  | .evcf p _ l => evcfReply p l
  | .peer p _ l => peerReply p l
  | .iden p _ l => idenReply p l
  | .rstr p _ l => rstrReply p l
  | _ => fun s => s.refuse .unkn

/-- A request is served by its rule: BUSY in start-up where R161 has it so, else in every phase. -/
theorem exec_of_request {c : Instr} {p : Port} {tag : Byte} {name : List Byte} (h : c.request = some (p, tag, name))
    (s : State) : exec c s = .next
      (if c.startsBusy = true then s.serve p tag (requestRule c) else s.serveAlways p tag (requestRule c)) := by
  cases c <;> cases h <;> rfl

/-- Everything a request can do: it is ignored, answered BUSY with cause STARTING, or answered by its rule. -/
theorem exec_request_cases {c : Instr} {p : Port} {tag : Byte} {name : List Byte} (h : c.request = some (p, tag, name))
    {s t : State} (ht : exec c s = .next t) :
    ((s.port p).response.isSome = true ∧ t = s) ∨
    ((s.port p).response = none ∧ s.startUp.phase ≠ .ready ∧ c.startsBusy = true ∧
      t = s.answer p tag .busy (u8 BusyCause.starting.code ++ u8 s.startUp.phase.code)) ∨
    ((s.port p).response = none ∧ (c.startsBusy = true → s.startUp.phase = .ready) ∧
      t = (requestRule c s).state.answer p tag (requestRule c s).status (requestRule c s).payload) := by
  rw [exec_of_request h] at ht
  injection ht with ht
  subst ht
  by_cases busy : c.startsBusy = true
  · rw [if_pos busy]
    rcases s.serve_cases p tag (requestRule c) with ⟨pending, e⟩ | ⟨idle, phase, e⟩ | ⟨takes, e⟩
    · exact .inl ⟨pending, e⟩
    · exact .inr (.inl ⟨idle, phase, busy, e⟩)
    · exact .inr (.inr ⟨takes.1, fun _ => takes.2, e⟩)
  · rw [if_neg busy]
    rcases s.serveAlways_cases p tag (requestRule c) with ⟨pending, e⟩ | ⟨idle, e⟩
    · exact .inl ⟨pending, e⟩
    · exact .inr (.inr ⟨idle, fun b => absurd b busy, e⟩)

/-! ### Footprints -/

/-- The blocks of the state, the two ports taken as one. -/
inductive Block where
  | now | gate | cal | scan | level | thermal | clock | model | engine | stations | occupations | archive | flash | ports
  | startUp
deriving DecidableEq

/-- Two states agree outside the blocks of a list; what stands outside the part is never in the list. -/
structure State.AgreesOff (s t : State) (moved : List Block) : Prop where
  now : Block.now ∉ moved → t.now = s.now
  gate : Block.gate ∉ moved → t.gate = s.gate
  cal : Block.cal ∉ moved → t.cal = s.cal
  scan : Block.scan ∉ moved → t.scan = s.scan
  level : Block.level ∉ moved → t.level = s.level
  thermal : Block.thermal ∉ moved → t.thermal = s.thermal
  clock : Block.clock ∉ moved → t.clock = s.clock
  model : Block.model ∉ moved → t.model = s.model
  engine : Block.engine ∉ moved → t.engine = s.engine
  stations : Block.stations ∉ moved → t.stations = s.stations
  occupations : Block.occupations ∉ moved → t.occupations = s.occupations
  archive : Block.archive ∉ moved → t.archive = s.archive
  flash : Block.flash ∉ moved → t.flash = s.flash
  ports : Block.ports ∉ moved → t.portA = s.portA ∧ t.portB = s.portB
  startUp : Block.startUp ∉ moved → t.startUp = s.startUp
  incoming : t.incoming = s.incoming
  pending : t.pending = s.pending

/-- The footprint of a command: the blocks it may change. -/
def footprint : Instr → List Block
  | .powerReset _ | .lineReset _ =>
    [.now, .gate, .cal, .scan, .level, .thermal, .clock, .model, .engine, .stations, .occupations, .archive, .flash, .ports,
      .startUp]
  | .modelLoadEnd => [.model, .scan, .archive, .startUp, .ports]
  | .mountEnd => [.occupations, .archive, .startUp, .ports]
  | .cgat .. => [.cal, .gate, .ports]
  | .ckst .. => [.clock, .ports]
  | .mdwr .. => [.model, .level, .thermal, .scan, .engine, .ports]
  | .setu .. | .mdst .. => [.model, .ports]
  | .surv .. => [.model, .level, .thermal, .engine, .archive, .ports]
  | .rdrq .. => [.engine, .ports]
  | .rdcn .. => [.engine, .gate, .ports]
  | .stdf .. | .strm .. => [.stations, .ports]
  | .ocop .. | .occl .. | .ocds .. => [.stations, .occupations, .ports]
  | .arrt .. | .arsk .. | .arnx .. => [.archive, .ports]
  | .rstr .. => [.startUp, .ports]
  | .responseSent _ | .restartTimerExpiry => [.gate, .cal, .scan, .level, .thermal, .engine, .startUp, .ports]
  | .startEdge | .sensorEdge _ | .completionEdge | .gateTimeout => [.gate, .cal, .engine]
  | .frameArrival => [.scan, .level, .thermal, .engine, .cal]
  | .levelMonitorFrame => [.level, .engine, .ports]
  | .thermalTrackerFrame => [.thermal, .engine, .ports]
  | .gateAccumulatorFrame | .stepNotice => [.engine]
  | .calibrationAccumulatorFrame => [.cal]
  | .calibrationGateEnd => [.cal, .ports]
  | .internalTick | .secondPulseInternal | .secondPulseDisciplined | .pulseWindowExpiry => [.clock, .gate, .engine, .ports]
  | .takeHead | .settleExpiry => [.engine, .gate]
  | .levelWaitExpiry => [.engine, .ports]
  | .levelNotice | .completionReport | .timeoutReport | .thermalReport => [.engine, .gate, .occupations, .ports]
  | .staging => [.occupations, .archive]
  | .startModelStore | .startPageProgram => [.archive, .flash]
  | .pageProgramSuccess => [.occupations, .archive, .flash, .ports]
  | .pageProgramFailure => [.archive, .ports]
  | .modelStoreCompletion _ => [.model, .archive, .flash, .startUp, .ports]
  | .referencePeriodEnd _ => [.now, .gate]
  | .analogConversion .. => [.scan]
  | _ => [.ports]

section
variable {s t : State}

theorem State.AgreesOff.refl (moved : List Block) : s.AgreesOff s moved := by
  constructor <;> simp

theorem State.agreesOff_setPort (p : Port) (q : PortState) {moved : List Block} (hp : Block.ports ∈ moved)
    (h : s.AgreesOff t moved) : s.AgreesOff (t.setPort p q) moved := by
  obtain ⟨now, gate, cal, scan, level, thermal, clock, model, engine, stations, occupations, archive, flash, _, startUp,
    incoming, pending⟩ := h
  cases p <;>
    exact ⟨now, gate, cal, scan, level, thermal, clock, model, engine, stations, occupations, archive, flash,
      fun absent => absurd hp absent, startUp, incoming, pending⟩

end

end Sys2Proof.Machine
end

section
/-!
PROOFS. The footprints: what each rule and each event's meaning leaves as it was, gathered into one statement about every
command.
-/

namespace Sys2Proof.Machine

variable (s : State)

/-! ### Requests that change nothing -/

@[simp] theorem cgrdReply_state (l : List Byte) : (cgrdReply l s).state = s := by
  unfold cgrdReply State.sized; repeat' split
  all_goals rfl

@[simp] theorem liveReply_state (l : List Byte) : (liveReply l s).state = s := by
  unfold liveReply State.sized; repeat' split
  all_goals rfl

@[simp] theorem ckrdReply_state (l : List Byte) : (ckrdReply l s).state = s := by
  unfold ckrdReply State.sized; repeat' split
  all_goals rfl

@[simp] theorem tdcpReply_state (l : List Byte) : (tdcpReply l s).state = s := by
  unfold tdcpReply State.sized; dsimp only; repeat' split
  all_goals rfl

@[simp] theorem mdrdReply_state (l : List Byte) : (mdrdReply l s).state = s := by
  unfold mdrdReply State.sized; repeat' split
  all_goals rfl

@[simp] theorem rdquReply_state (l : List Byte) : (rdquReply l s).state = s := by
  unfold rdquReply State.sized; repeat' split
  all_goals rfl

@[simp] theorem strdReply_state (l : List Byte) : (strdReply l s).state = s := by
  unfold strdReply State.sized State.stationReply; dsimp only; repeat' split
  all_goals rfl

@[simp] theorem ocrdReply_state (l : List Byte) : (ocrdReply l s).state = s := by
  unfold ocrdReply State.sized State.occupationReply; dsimp only; repeat' split
  all_goals rfl

@[simp] theorem arstReply_state (p : Port) (l : List Byte) : (arstReply p l s).state = s := by
  unfold arstReply State.sized; repeat' split
  all_goals rfl

@[simp] theorem idenReply_state (p : Port) (l : List Byte) : (idenReply p l s).state = s := by
  unfold idenReply State.sized; repeat' split
  all_goals rfl

/-! ### Requests that change something -/

theorem cgatReply_agreesOff (p : Port) (l : List Byte) : s.AgreesOff (cgatReply p l s).state [.cal, .gate, .ports] := by
  unfold cgatReply State.sized; dsimp only; repeat' split
  all_goals constructor <;> simp

theorem ckstReply_agreesOff (l : List Byte) : s.AgreesOff (ckstReply l s).state [.clock, .ports] := by
  unfold ckstReply State.sized; dsimp only; repeat' split
  all_goals constructor <;> simp

theorem mdwrReply_agreesOff (l : List Byte) : s.AgreesOff (mdwrReply l s).state [.model, .level, .thermal, .scan, .engine, .ports] := by
  unfold mdwrReply; repeat' split
  all_goals constructor <;> simp

theorem setuReply_agreesOff (l : List Byte) : s.AgreesOff (setuReply l s).state [.model, .ports] := by
  unfold setuReply State.sized; repeat' split
  all_goals constructor <;> simp

theorem survReply_agreesOff (l : List Byte) : s.AgreesOff (survReply l s).state [.model, .level, .thermal, .engine, .archive, .ports] := by
  unfold survReply State.sized; repeat' split
  all_goals constructor <;> simp

theorem mdstReply_agreesOff (l : List Byte) : s.AgreesOff (mdstReply l s).state [.model, .ports] := by
  unfold mdstReply State.sized; repeat' split
  all_goals constructor <;> simp

theorem rdrqReply_agreesOff (p : Port) (l : List Byte) : s.AgreesOff (rdrqReply p l s).state [.engine, .ports] := by
  unfold rdrqReply State.sized; dsimp only; repeat' split
  all_goals constructor <;> simp

theorem rdcnReply_agreesOff (p : Port) (l : List Byte) : s.AgreesOff (rdcnReply p l s).state [.engine, .gate, .ports] := by
  unfold rdcnReply State.sized; dsimp only; repeat' split
  all_goals constructor <;> simp

theorem stdfReply_agreesOff (p : Port) (l : List Byte) : s.AgreesOff (stdfReply p l s).state [.stations, .ports] := by
  unfold stdfReply State.sized; dsimp only; repeat' split
  all_goals constructor <;> simp

theorem strmReply_agreesOff (p : Port) (l : List Byte) : s.AgreesOff (strmReply p l s).state [.stations, .ports] := by
  unfold strmReply State.sized; dsimp only; repeat' split
  all_goals constructor <;> simp

theorem ocopReply_agreesOff (p : Port) (l : List Byte) : s.AgreesOff (ocopReply p l s).state [.stations, .occupations, .ports] := by
  unfold ocopReply State.sized; dsimp only; repeat' split
  all_goals constructor <;> simp

theorem occlReply_agreesOff (p : Port) (l : List Byte) : s.AgreesOff (occlReply p l s).state [.stations, .occupations, .ports] := by
  unfold occlReply State.sized State.closeOccupation; dsimp only; repeat' split
  all_goals constructor <;> simp

theorem ocdsReply_agreesOff (p : Port) (l : List Byte) : s.AgreesOff (ocdsReply p l s).state [.stations, .occupations, .ports] := by
  unfold ocdsReply State.sized State.discardOccupation; repeat' split
  all_goals constructor <;> simp

theorem arrtReply_agreesOff (l : List Byte) : s.AgreesOff (arrtReply l s).state [.archive, .ports] := by
  unfold arrtReply State.sized; dsimp only; repeat' split
  all_goals constructor <;> simp

theorem arskReply_agreesOff (p : Port) (l : List Byte) : s.AgreesOff (arskReply p l s).state [.archive, .ports] := by
  unfold arskReply State.sized State.seekReply; repeat' split
  all_goals constructor <;> simp

theorem arnxReply_agreesOff (p : Port) (l : List Byte) : s.AgreesOff (arnxReply p l s).state [.archive, .ports] := by
  unfold arnxReply State.sized State.stepCursor; dsimp only; repeat' split
  all_goals constructor <;> simp

theorem rstrReply_agreesOff (p : Port) (l : List Byte) : s.AgreesOff (rstrReply p l s).state [.startUp, .ports] := by
  unfold rstrReply State.sized; repeat' split
  all_goals constructor <;> simp

theorem evrdReply_agreesOff (p : Port) (l : List Byte) : s.AgreesOff (evrdReply p l s).state [.ports] := by
  unfold evrdReply State.sized; repeat' split
  all_goals constructor <;> simp

theorem evakReply_agreesOff (p : Port) (l : List Byte) : s.AgreesOff (evakReply p l s).state [.ports] := by
  unfold evakReply State.sized; dsimp only; repeat' split
  all_goals constructor <;> simp

theorem evcfReply_agreesOff (p : Port) (l : List Byte) : s.AgreesOff (evcfReply p l s).state [.ports] := by
  unfold evcfReply State.sized; repeat' split
  all_goals constructor <;> simp

theorem peerReply_agreesOff (p : Port) (l : List Byte) : s.AgreesOff (peerReply p l s).state [.ports] := by
  unfold peerReply; repeat' split
  all_goals constructor <;> simp

/-- A rule changes at most the blocks of its request's footprint. -/
theorem requestRule_agreesOff {c : Instr} {p : Port} {tag : Byte} {name : List Byte} (h : c.request = some (p, tag, name)) :
    s.AgreesOff (requestRule c s).state (footprint c) := by
  cases c <;> cases h
  case cgrd.refl => rw [requestRule, cgrdReply_state]; exact .refl _
  case live.refl => rw [requestRule, liveReply_state]; exact .refl _
  case ckrd.refl => rw [requestRule, ckrdReply_state]; exact .refl _
  case tdcp.refl => rw [requestRule, tdcpReply_state]; exact .refl _
  case mdrd.refl => rw [requestRule, mdrdReply_state]; exact .refl _
  case rdqu.refl => rw [requestRule, rdquReply_state]; exact .refl _
  case strd.refl => rw [requestRule, strdReply_state]; exact .refl _
  case ocrd.refl => rw [requestRule, ocrdReply_state]; exact .refl _
  case arst.refl => rw [requestRule, arstReply_state]; exact .refl _
  case iden.refl => rw [requestRule, idenReply_state]; exact .refl _
  case cgat.refl => exact cgatReply_agreesOff ..
  case ckst.refl => exact ckstReply_agreesOff ..
  case mdwr.refl => exact mdwrReply_agreesOff ..
  case setu.refl => exact setuReply_agreesOff ..
  case surv.refl => exact survReply_agreesOff ..
  case mdst.refl => exact mdstReply_agreesOff ..
  case rdrq.refl => exact rdrqReply_agreesOff ..
  case rdcn.refl => exact rdcnReply_agreesOff ..
  case stdf.refl => exact stdfReply_agreesOff ..
  case strm.refl => exact strmReply_agreesOff ..
  case ocop.refl => exact ocopReply_agreesOff ..
  case occl.refl => exact occlReply_agreesOff ..
  case ocds.refl => exact ocdsReply_agreesOff ..
  case arrt.refl => exact arrtReply_agreesOff ..
  case arsk.refl => exact arskReply_agreesOff ..
  case arnx.refl => exact arnxReply_agreesOff ..
  case rstr.refl => exact rstrReply_agreesOff ..
  case evrd.refl => exact evrdReply_agreesOff ..
  case evak.refl => exact evakReply_agreesOff ..
  case evcf.refl => exact evcfReply_agreesOff ..
  case peer.refl => exact peerReply_agreesOff ..
  case unknownRequest.refl => exact .refl _

end Sys2Proof.Machine
end

section
/-!
PROOFS. The footprints of the events, and of every command.
-/

namespace Sys2Proof.Machine

variable {s t : State}

/-! ### The outcomes of a gate's evaluation -/

/-- Everything an evaluation can do: it drops the gate under one cause, accepts its sample, or stops where a trusted gate
finds no calibration slot, no station or no baseline (R103 to R105). -/
theorem State.evaluate_cases (s : State) (r : Reading) (h : HeldGate) (t : ThermalReport) :
    (∃ d : Drops, d.total = r.drops.total + 1 ∧
      s.evaluate r h t = .next (s.gateOver.afterGate { r.attempted with drops := d })) ∨
    (∃ gcal off st b, lookup s.model.groups.cali.toList h.report.raw = some (gcal, off) ∧
      s.station r.station = some st ∧ t.baseline = some b ∧
      s.evaluate r h t = .next (s.gateOver.afterGate
        (r.attempted.acceptGate h t.temp (computeSample s.model.groups st h t.temp b gcal off)))) ∨
    ((∃ f, s.evaluate r h t = .fault f) ∧ t.untrusted = false ∧
      (lookup s.model.groups.cali.toList h.report.raw = none ∨ s.station r.station = none ∨ t.baseline = none)) := by
  by_cases out : s.model.groups.gate.outOfBand h.report.raw = true
  · exact .inl ⟨_, by simp only [Drops.total]; omega, State.evaluate_of_outOfBand out⟩
  by_cases moved : s.model.groups.tilt.moved h = true
  · exact .inl ⟨_, by simp only [Drops.total]; omega, State.evaluate_of_moved out moved⟩
  by_cases untrusted : t.untrusted = true
  · exact .inl ⟨_, by simp only [Drops.total]; omega, State.evaluate_of_untrusted out moved untrusted⟩
  cases slot : lookup s.model.groups.cali.toList h.report.raw with
  | none => exact .inr (.inr ⟨⟨.noCalibrationInterval, by simp [State.evaluate, out, moved, untrusted, slot]⟩,
      by simpa using untrusted, .inl rfl⟩)
  | some x =>
  obtain ⟨gcal, off⟩ := x
  cases station : s.station r.station with
  | none => exact .inr (.inr ⟨⟨.stationMissing, by
      have kept : s.gateOver.station r.station = none := station
      simp [State.evaluate, out, moved, untrusted, slot, kept]⟩, by simpa using untrusted, .inr (.inl rfl)⟩)
  | some st =>
  cases baseline : t.baseline with
  | none => exact .inr (.inr ⟨⟨.noBaseline, by
      have kept : s.gateOver.station r.station = some st := station
      simp [State.evaluate, out, moved, untrusted, slot, kept, baseline]⟩, by simpa using untrusted, .inr (.inr rfl)⟩)
  | some b =>
  have sample := State.evaluate_of_sample out moved untrusted slot station baseline rfl
  split at sample
  · exact .inl ⟨_, by simp only [Drops.total]; omega, sample⟩
  · exact .inr (.inl ⟨gcal, off, st, b, rfl, rfl, rfl, sample⟩)

/-- A footprint that holds the engine does not notice the engine's fields replaced. -/
theorem State.AgreesOff.of_engine {moved : List Block} (e : Engine) (h : ({ s with engine := e } : State).AgreesOff t moved)
    (moves : Block.engine ∈ moved := by simp) : s.AgreesOff t moved := by
  obtain ⟨now, gate, cal, scan, level, thermal, clock, model, _, stations, occupations, archive, flash, ports, startUp,
    incoming, pending⟩ := h
  exact ⟨now, gate, cal, scan, level, thermal, clock, model, fun absent => absurd moves absent, stations, occupations,
    archive, flash, ports, startUp, incoming, pending⟩

theorem State.evaluate_agreesOff {r : Reading} {h : HeldGate} {c : ThermalReport} (e : s.evaluate r h c = .next t) :
    s.AgreesOff t [.engine, .gate, .occupations, .ports] := by
  have ends (r' : Reading) : s.AgreesOff (s.gateOver.afterGate r') [.engine, .gate, .occupations, .ports] := by
    constructor <;> simp
  rcases s.evaluate_cases r h c with ⟨d, _, e'⟩ | ⟨_, _, _, _, _, _, _, e'⟩ | ⟨⟨f, e'⟩, _⟩ <;> rw [e'] at e <;> cases e
  · exact ends _
  · exact ends _

/-! ### Events -/

theorem execModelLoadEnd_agreesOff (h : execModelLoadEnd s = .next t) : s.AgreesOff t [.model, .scan, .archive, .startUp, .ports] := by
  simp only [execModelLoadEnd, Host.Outcome.next.injEq] at h; subst h
  repeat' split
  all_goals constructor <;> simp

theorem execMountEnd_agreesOff (h : execMountEnd s = .next t) : s.AgreesOff t [.occupations, .archive, .startUp, .ports] := by
  simp only [execMountEnd, Host.Outcome.next.injEq] at h; subst h
  repeat' split
  all_goals constructor <;> simp

theorem execResponseSent_agreesOff (p : Port) (h : execResponseSent p s = .next t) : s.AgreesOff t [.gate, .cal, .scan, .level, .thermal, .engine, .startUp, .ports] := by
  simp only [execResponseSent, Host.Outcome.next.injEq] at h; subst h
  repeat' split
  all_goals constructor <;> simp

theorem execRestartTimerExpiry_agreesOff (h : execRestartTimerExpiry s = .next t) : s.AgreesOff t [.gate, .cal, .scan, .level, .thermal, .engine, .startUp, .ports] := by
  simp only [execRestartTimerExpiry, Host.Outcome.next.injEq] at h; subst h
  repeat' split
  all_goals constructor <;> simp

theorem execStartEdge_agreesOff (h : execStartEdge s = .next t) : s.AgreesOff t [.gate, .cal, .engine] := by
  simp only [execStartEdge, Host.Outcome.next.injEq] at h; subst h
  constructor <;> simp

theorem execSensorEdge_agreesOff (n : Nat) (h : execSensorEdge n s = .next t) : s.AgreesOff t [.gate, .cal, .engine] := by
  simp only [execSensorEdge, Host.Outcome.next.injEq] at h; subst h
  constructor <;> simp

theorem execCompletionEdge_agreesOff (h : execCompletionEdge s = .next t) : s.AgreesOff t [.gate, .cal, .engine] := by
  simp only [execCompletionEdge, Host.Outcome.next.injEq] at h; subst h
  constructor <;> simp

theorem execGateTimeout_agreesOff (h : execGateTimeout s = .next t) : s.AgreesOff t [.gate, .cal, .engine] := by
  simp only [execGateTimeout, Host.Outcome.next.injEq] at h; subst h
  repeat' split
  all_goals constructor <;> simp

theorem execFrameArrival_agreesOff (h : execFrameArrival s = .next t) : s.AgreesOff t [.scan, .level, .thermal, .engine, .cal] := by
  simp only [execFrameArrival, Host.Outcome.next.injEq] at h; subst h
  repeat' split
  all_goals constructor <;> simp

theorem execLevelMonitorFrame_agreesOff (h : execLevelMonitorFrame s = .next t) : s.AgreesOff t [.level, .engine, .ports] := by
  simp only [execLevelMonitorFrame, Host.Outcome.next.injEq] at h; subst h
  repeat' split
  all_goals constructor <;> simp

theorem execThermalTrackerFrame_agreesOff (h : execThermalTrackerFrame s = .next t) : s.AgreesOff t [.thermal, .engine, .ports] := by
  simp only [execThermalTrackerFrame, Host.Outcome.next.injEq] at h; subst h
  repeat' split
  all_goals constructor <;> simp

theorem execGateAccumulatorFrame_agreesOff (h : execGateAccumulatorFrame s = .next t) : s.AgreesOff t [.engine] := by
  simp only [execGateAccumulatorFrame, Host.Outcome.next.injEq] at h; subst h
  repeat' split
  all_goals constructor <;> simp

theorem execStepNotice_agreesOff (h : execStepNotice s = .next t) : s.AgreesOff t [.engine] := by
  simp only [execStepNotice, Host.Outcome.next.injEq] at h; subst h
  repeat' split
  all_goals constructor <;> simp

theorem execCalibrationAccumulatorFrame_agreesOff (h : execCalibrationAccumulatorFrame s = .next t) : s.AgreesOff t [.cal] := by
  simp only [execCalibrationAccumulatorFrame, Host.Outcome.next.injEq] at h; subst h
  repeat' split
  all_goals constructor <;> simp

theorem execCalibrationGateEnd_agreesOff (h : execCalibrationGateEnd s = .next t) : s.AgreesOff t [.cal, .ports] := by
  simp only [execCalibrationGateEnd, Host.Outcome.next.injEq] at h; subst h
  repeat' split
  all_goals constructor <;> simp

theorem execInternalTick_agreesOff (h : execInternalTick s = .next t) : s.AgreesOff t [.clock, .gate, .engine, .ports] := by
  simp only [execInternalTick, Host.Outcome.next.injEq] at h; subst h
  repeat' split
  all_goals constructor <;> simp

theorem execSecondPulseInternal_agreesOff (h : execSecondPulseInternal s = .next t) : s.AgreesOff t [.clock, .gate, .engine, .ports] := by
  simp only [execSecondPulseInternal, Host.Outcome.next.injEq] at h; subst h
  constructor <;> simp

theorem execSecondPulseDisciplined_agreesOff (h : execSecondPulseDisciplined s = .next t) : s.AgreesOff t [.clock, .gate, .engine, .ports] := by
  simp only [execSecondPulseDisciplined, Host.Outcome.next.injEq] at h; subst h
  constructor <;> simp

theorem execPulseWindowExpiry_agreesOff (h : execPulseWindowExpiry s = .next t) : s.AgreesOff t [.clock, .gate, .engine, .ports] := by
  simp only [execPulseWindowExpiry, Host.Outcome.next.injEq] at h; subst h
  repeat' split
  all_goals constructor <;> simp

theorem execSettleExpiry_agreesOff (h : execSettleExpiry s = .next t) : s.AgreesOff t [.engine, .gate] := by
  simp only [execSettleExpiry, Host.Outcome.next.injEq] at h; subst h
  repeat' split
  all_goals constructor <;> simp

theorem execLevelWaitExpiry_agreesOff (h : execLevelWaitExpiry s = .next t) : s.AgreesOff t [.engine, .ports] := by
  simp only [execLevelWaitExpiry, Host.Outcome.next.injEq] at h; subst h
  repeat' split
  all_goals constructor <;> simp

theorem execLevelNotice_agreesOff (h : execLevelNotice s = .next t) : s.AgreesOff t [.engine, .gate, .occupations, .ports] := by
  simp only [execLevelNotice, Host.Outcome.next.injEq] at h; subst h
  repeat' split
  all_goals constructor <;> simp

theorem execTimeoutReport_agreesOff (h : execTimeoutReport s = .next t) : s.AgreesOff t [.engine, .gate, .occupations, .ports] := by
  simp only [execTimeoutReport, Host.Outcome.next.injEq] at h; subst h
  repeat' split
  all_goals constructor <;> simp

theorem execStartModelStore_agreesOff (h : execStartModelStore s = .next t) : s.AgreesOff t [.archive, .flash] := by
  simp only [execStartModelStore, Host.Outcome.next.injEq] at h; subst h
  repeat' split
  all_goals constructor <;> simp

theorem execStartPageProgram_agreesOff (h : execStartPageProgram s = .next t) : s.AgreesOff t [.archive, .flash] := by
  simp only [execStartPageProgram, Host.Outcome.next.injEq] at h; subst h
  repeat' split
  all_goals constructor <;> simp

theorem execPageProgramSuccess_agreesOff (h : execPageProgramSuccess s = .next t) : s.AgreesOff t [.occupations, .archive, .flash, .ports] := by
  simp only [execPageProgramSuccess, Host.Outcome.next.injEq] at h; subst h
  repeat' split
  all_goals constructor <;> simp

theorem execPageProgramFailure_agreesOff (h : execPageProgramFailure s = .next t) : s.AgreesOff t [.archive, .ports] := by
  simp only [execPageProgramFailure, Host.Outcome.next.injEq] at h; subst h
  repeat' split
  all_goals constructor <;> simp

theorem execModelStoreCompletion_agreesOff (v : Bool) (h : execModelStoreCompletion v s = .next t) : s.AgreesOff t [.model, .archive, .flash, .startUp, .ports] := by
  simp only [execModelStoreCompletion, Host.Outcome.next.injEq] at h; subst h
  repeat' split
  all_goals constructor <;> simp

theorem execReferencePeriodEnd_agreesOff (n : Nat) (h : execReferencePeriodEnd n s = .next t) : s.AgreesOff t [.now, .gate] := by
  simp only [execReferencePeriodEnd, Host.Outcome.next.injEq] at h; subst h
  repeat' split
  all_goals constructor <;> simp

theorem execAnalogConversion_agreesOff (ch : Channel) (code : BitVec 24) (h : execAnalogConversion ch code s = .next t) : s.AgreesOff t [.scan] := by
  simp only [execAnalogConversion, Host.Outcome.next.injEq] at h; subst h
  repeat' split
  all_goals constructor <;> simp

theorem execLineError_agreesOff (h : execLineError s = .next t) : s.AgreesOff t [.ports] := by
  simp only [execLineError, Host.Outcome.next.injEq] at h; subst h
  constructor <;> simp

theorem execFrameGapExpiry_agreesOff (h : execFrameGapExpiry s = .next t) : s.AgreesOff t [.ports] := by
  simp only [execFrameGapExpiry, Host.Outcome.next.injEq] at h; subst h
  constructor <;> simp

theorem execSelectRelease_agreesOff (h : execSelectRelease s = .next t) : s.AgreesOff t [.ports] := by
  simp only [execSelectRelease, Host.Outcome.next.injEq] at h; subst h
  constructor <;> simp

theorem execAtnPulse_agreesOff (p : Port) (h : execAtnPulse p s = .next t) : s.AgreesOff t [.ports] := by
  simp only [execAtnPulse, Host.Outcome.next.injEq] at h; subst h
  constructor <;> simp

theorem State.serveAlways_agreesOff (p : Port) (tag : Byte) {rule : State → Reply} (h : (rule s).state = s) :
    s.AgreesOff (s.serveAlways p tag rule) [.ports] := by
  rcases s.serveAlways_cases p tag rule with ⟨_, e⟩ | ⟨_, e⟩ <;> rw [e]
  · exact .refl _
  · rw [h]; exact State.agreesOff_setPort _ _ (by simp) (.refl _)

theorem execFrameLengthError_agreesOff (p : Port) (tag : Byte) (n : BitVec 16)
    (h : execFrameLengthError p tag n s = .next t) : s.AgreesOff t [.ports] := by
  simp only [execFrameLengthError, Host.Outcome.next.injEq] at h; subst h
  split
  · exact State.serveAlways_agreesOff p tag rfl
  · exact .refl _

theorem execFrameCheckError_agreesOff (p : Port) (tag : Byte) (h : execFrameCheckError p tag s = .next t) :
    s.AgreesOff t [.ports] := by
  simp only [execFrameCheckError, Host.Outcome.next.injEq] at h; subst h
  exact State.serveAlways_agreesOff p tag rfl

theorem execTakeHead_agreesOff (h : execTakeHead s = .next t) : s.AgreesOff t [.engine, .gate] := by
  unfold execTakeHead at h; dsimp only at h; repeat' split at h
  all_goals cases h
  all_goals constructor <;> simp

theorem execStaging_agreesOff (h : execStaging s = .next t) : s.AgreesOff t [.occupations, .archive] := by
  unfold execStaging at h; dsimp only at h; repeat' split at h
  all_goals cases h
  all_goals constructor <;> simp

/-! ### The two reports that can lead to an evaluation -/

/-- The engine with the gate reports on their way replaced. -/
def State.withReports (s : State) (l : List GateReport) : State := { s with engine := { s.engine with reports := l } }

/-- The engine with a thermal report taken, over the reports left and for the reading in flight (R102, R109). -/
def State.withThermalReport (s : State) (r : Reading) (c : ThermalReport) (l : List ThermalReport) : State :=
  { s with engine := { s.engine with
      thermalReports := l, latestReport := some c, reading := some (r.sawReport c)
      kept := if r.keeps then s.engine.kept ++ [c] else s.engine.kept } }

/-- Everything a completion report taken for the outstanding gate can do: stop with no frame in force, await the thermal
report, or be evaluated with a kept one (R101, R102). -/
theorem State.takeCompletion_cases (s : State) (r : Reading) (c : Completion) :
    (s.engine.acc.thermalFrame = none ∧ s.scan.latest = none ∧ s.takeCompletion r c = .fault .noFrameInForce) ∨
    (∃ h, s.takeCompletion r c = .next (s.withReading { r with state := .gating (.awaiting h) })) ∨
    ∃ h, ∃ t ∈ s.engine.kept, s.takeCompletion r c = s.evaluate r h t := by
  unfold State.takeCompletion
  split
  next settled =>
    unfold settleGate at settled
    split at settled <;> try cases settled
    exact .inl ⟨‹_›, ‹_›, rfl⟩
  next h _ =>
    split
    next t found => exact .inr (.inr ⟨h, t, List.mem_of_find?_eq_some found, rfl⟩)
    next => exact .inr (.inl ⟨h, rfl⟩)

theorem Engine.outstanding_eq_some {e : Engine} {gate : Nat} (h : e.outstanding = some gate) :
    ∃ r, e.reading = some r ∧ r.state = .gating (.outstanding gate) := by
  unfold Engine.outstanding at h
  split at h
  next r reading =>
    split at h
    next g state => cases h; exact ⟨r, reading, state⟩
    next => cases h
  next => cases h

theorem Engine.waitingOn_eq_some {e : Engine} {gate : Nat} {r : Reading} (h : e.waitingOn gate = some r) :
    e.reading = some r ∧ r.state = .gating (.outstanding gate) := by
  unfold Engine.waitingOn at h
  split at h
  next outstanding =>
    obtain ⟨r', reading, state⟩ := Engine.outstanding_eq_some outstanding
    cases h.symm.trans reading
    exact ⟨h, state⟩
  next => cases h

/-- Everything COMPLETION_REPORT can do: nothing, discard a report, or take one for the reading that waits on its gate
(R99, R100). -/
theorem execCompletionReport_cases (s : State) :
    execCompletionReport s = .next s ∨ (∃ l, execCompletionReport s = .next (s.withReports l)) ∨
    ∃ l c r, s.engine.reading = some r ∧ r.state = .gating (.outstanding c.gate) ∧
      execCompletionReport s = (s.withReports l).takeCompletion r c := by
  unfold execCompletionReport
  split
  · exact .inl rfl
  next c l _ =>
    split
    · exact .inl rfl
    dsimp only
    split
    next r waits =>
      obtain ⟨reading, state⟩ := Engine.waitingOn_eq_some waits
      exact .inr (.inr ⟨l, c, r, reading, state, rfl⟩)
    next => exact .inr (.inl ⟨l, rfl⟩)

/-- Everything THERMAL_REPORT can do: nothing, take the report with no reading in flight, take it for the reading, and
resume the evaluation that awaits it (R102, R109). -/
theorem execThermalReport_cases (s : State) :
    (s.engine.thermalReports = [] ∧ execThermalReport s = .next s) ∨
    ∃ c l, s.engine.thermalReports = c :: l ∧
      ((s.engine.reading = none ∧ execThermalReport s =
          .next { s with engine := { s.engine with thermalReports := l, latestReport := some c } }) ∨
        ∃ r, s.engine.reading = some r ∧
          (execThermalReport s = .next (s.withThermalReport r c l) ∨
            ∃ h, r.state = .gating (.awaiting h) ∧
              execThermalReport s = (s.withThermalReport r c l).evaluate (r.sawReport c) h c)) := by
  unfold execThermalReport
  split
  next none_left => exact .inl ⟨none_left, rfl⟩
  next c l reports =>
    refine .inr ⟨c, l, reports, ?_⟩
    dsimp only
    split
    next idle => exact .inl ⟨idle, rfl⟩
    next r reading =>
      refine .inr ⟨r, reading, ?_⟩
      split
      next h awaits =>
        split
        · exact .inr ⟨h, awaits, rfl⟩
        · exact .inl rfl
      · exact .inl rfl

/-- The reading after a timeout report of its gate (R103). -/
def Reading.unsignalled (r : Reading) : Reading :=
  { r with attempts := r.attempts + 1, drops := { r.drops with noSignal := r.drops.noSignal + 1 } }

/-- Everything TIMEOUT_REPORT can do: nothing, discard a report, or take one for the reading that waits on its gate (R99,
R103). -/
theorem execTimeoutReport_cases (s : State) :
    execTimeoutReport s = .next s ∨ (∃ l, execTimeoutReport s = .next (s.withReports l)) ∨
    ∃ l g r, s.engine.reading = some r ∧ r.state = .gating (.outstanding g) ∧
      execTimeoutReport s = .next ((s.withReports l).gateOver.afterGate r.unsignalled) := by
  unfold execTimeoutReport
  split
  · exact .inl rfl
  next g l _ =>
    split
    · exact .inl rfl
    dsimp only
    split
    next r waits =>
      obtain ⟨reading, state⟩ := Engine.waitingOn_eq_some waits
      exact .inr (.inr ⟨l, g, r, reading, state, rfl⟩)
    next => exact .inr (.inl ⟨l, rfl⟩)

theorem execCompletionReport_agreesOff (h : execCompletionReport s = .next t) :
    s.AgreesOff t [.engine, .gate, .occupations, .ports] := by
  rcases execCompletionReport_cases s with e | ⟨l, e⟩ | ⟨l, c, r, _, _, e⟩
  · rw [e] at h; cases h; exact .refl _
  · rw [e] at h; cases h; constructor <;> simp [State.withReports]
  · rw [e] at h
    rcases (s.withReports l).takeCompletion_cases r c with ⟨_, _, e⟩ | ⟨held, e⟩ | ⟨held, report, _, e⟩
    · rw [e] at h; cases h
    · rw [e] at h; cases h; constructor <;> simp [State.withReports]
    · exact State.evaluate_agreesOff (e ▸ h) |>.of_engine _

theorem execThermalReport_agreesOff (h : execThermalReport s = .next t) :
    s.AgreesOff t [.engine, .gate, .occupations, .ports] := by
  rcases execThermalReport_cases s with ⟨_, e⟩ | ⟨c, l, _, ⟨_, e⟩ | ⟨r, _, e | ⟨held, _, e⟩⟩⟩
  · rw [e] at h; cases h; exact .refl _
  · rw [e] at h; cases h; constructor <;> simp
  · rw [e] at h; cases h; constructor <;> simp [State.withThermalReport]
  · exact State.evaluate_agreesOff (e ▸ h) |>.of_engine _

/-! ### Every command -/

/-- An event changes at most the blocks of its footprint. -/
theorem exec_event_agreesOff {c : Instr} (event : c.request = none) (h : exec c s = .next t) :
    s.AgreesOff t (footprint c) := by
  cases c <;> simp only [Instr.request, reduceCtorEq] at event
  case powerReset | lineReset => cases h; constructor <;> simp [footprint, State.afterReset]
  case frameLengthError => exact execFrameLengthError_agreesOff _ _ _ h
  case frameCheckError => exact execFrameCheckError_agreesOff _ _ h
  case modelLoadEnd => exact execModelLoadEnd_agreesOff h
  case mountEnd => exact execMountEnd_agreesOff h
  case responseSent => exact execResponseSent_agreesOff _ h
  case restartTimerExpiry => exact execRestartTimerExpiry_agreesOff h
  case startEdge => exact execStartEdge_agreesOff h
  case sensorEdge => exact execSensorEdge_agreesOff _ h
  case completionEdge => exact execCompletionEdge_agreesOff h
  case gateTimeout => exact execGateTimeout_agreesOff h
  case frameArrival => exact execFrameArrival_agreesOff h
  case levelMonitorFrame => exact execLevelMonitorFrame_agreesOff h
  case thermalTrackerFrame => exact execThermalTrackerFrame_agreesOff h
  case gateAccumulatorFrame => exact execGateAccumulatorFrame_agreesOff h
  case stepNotice => exact execStepNotice_agreesOff h
  case calibrationAccumulatorFrame => exact execCalibrationAccumulatorFrame_agreesOff h
  case calibrationGateEnd => exact execCalibrationGateEnd_agreesOff h
  case internalTick => exact execInternalTick_agreesOff h
  case secondPulseInternal => exact execSecondPulseInternal_agreesOff h
  case secondPulseDisciplined => exact execSecondPulseDisciplined_agreesOff h
  case pulseWindowExpiry => exact execPulseWindowExpiry_agreesOff h
  case settleExpiry => exact execSettleExpiry_agreesOff h
  case levelWaitExpiry => exact execLevelWaitExpiry_agreesOff h
  case levelNotice => exact execLevelNotice_agreesOff h
  case timeoutReport => exact execTimeoutReport_agreesOff h
  case startModelStore => exact execStartModelStore_agreesOff h
  case startPageProgram => exact execStartPageProgram_agreesOff h
  case pageProgramSuccess => exact execPageProgramSuccess_agreesOff h
  case pageProgramFailure => exact execPageProgramFailure_agreesOff h
  case modelStoreCompletion => exact execModelStoreCompletion_agreesOff _ h
  case referencePeriodEnd => exact execReferencePeriodEnd_agreesOff _ h
  case analogConversion => exact execAnalogConversion_agreesOff _ _ h
  case lineError => exact execLineError_agreesOff h
  case frameGapExpiry => exact execFrameGapExpiry_agreesOff h
  case selectRelease => exact execSelectRelease_agreesOff h
  case atnPulse => exact execAtnPulse_agreesOff _ h
  case takeHead => exact execTakeHead_agreesOff h
  case staging => exact execStaging_agreesOff h
  case completionReport => exact execCompletionReport_agreesOff h
  case thermalReport => exact execThermalReport_agreesOff h

/-- A command changes at most the blocks of its footprint; and it leaves what stands outside the part. -/
theorem exec_agreesOff {c : Instr} (h : exec c s = .next t) : s.AgreesOff t (footprint c) := by
  cases request : c.request with
  | none => exact exec_event_agreesOff request h
  | some x =>
    obtain ⟨p, tag, name⟩ := x
    have ports : Block.ports ∈ footprint c := by cases c <;> cases request <;> simp [footprint]
    rcases exec_request_cases request h with ⟨_, rfl⟩ | ⟨_, _, _, rfl⟩ | ⟨_, _, rfl⟩
    · exact .refl _
    · exact State.agreesOff_setPort _ _ ports (.refl _)
    · exact State.agreesOff_setPort _ _ ports (requestRule_agreesOff s request)

/-- Settles O2: no footprint holds what stands outside the part. -/
theorem execLeavesTheQueue : Obligations.ExecLeavesTheQueue := by
  intro c s t h
  exact ⟨(exec_agreesOff h).pending, (exec_agreesOff h).incoming⟩


end Sys2Proof.Machine
end

section
/-!
PROOFS. Chapter 10.3: what the operations of the other blocks do to the two ports. They post, and do nothing else there.
-/

namespace Sys2Proof.Machine

/-! ### Postings one after another -/

/-- A port after some postings and no other change. -/
inductive PortState.AfterPosts (q : PortState) : PortState → Prop
  | refl : q.AfterPosts q
  | post {r : PortState} (d : Detail) : q.AfterPosts r → q.AfterPosts (r.post d)

/-- Both ports after some postings and no other change. -/
def State.PostsOnly (s t : State) : Prop := s.portA.AfterPosts t.portA ∧ s.portB.AfterPosts t.portB

section
variable {s t : State}

theorem State.PostsOnly.refl (s : State) : s.PostsOnly s := ⟨.refl, .refl⟩

theorem State.PostsOnly.port (h : s.PostsOnly t) : ∀ p, (s.port p).AfterPosts (t.port p)
  | .a => h.1
  | .b => h.2

theorem State.PostsOnly.postBoth (h : s.PostsOnly t) (d : Detail) : s.PostsOnly (t.postBoth d) := ⟨.post d h.1, .post d h.2⟩

theorem State.PostsOnly.post (h : s.PostsOnly t) : ∀ (p : Port) (d : Detail), s.PostsOnly (t.post p d)
  | .a, d => ⟨.post d h.1, h.2⟩
  | .b, d => ⟨h.1, .post d h.2⟩

end

/-! ### The shared operations -/

section
variable {s t : State} (h : s.PostsOnly t)
include h

theorem State.PostsOnly.tick (date : Nat) : s.PostsOnly (t.tick date) := by
  unfold State.tick; dsimp only; split
  · exact h
  · exact h
  · exact .postBoth (by exact h) _

theorem State.PostsOnly.returnInternal (c : ClckCause) : s.PostsOnly (t.returnInternal c) := .postBoth (by exact h) _

theorem State.PostsOnly.qualify : s.PostsOnly t.qualify := by
  unfold State.qualify; dsimp only; split
  · exact .tick (.postBoth (by exact h) _) _
  · exact .postBoth (by exact h) _

theorem State.PostsOnly.pulseInternal : s.PostsOnly t.pulseInternal := by
  unfold State.pulseInternal; dsimp only
  repeat' split
  all_goals first | exact h | exact .qualify (by exact h)

theorem State.PostsOnly.pulseDisciplined : s.PostsOnly t.pulseDisciplined := by
  unfold State.pulseDisciplined; dsimp only; split
  · exact .tick (by exact h) _
  · split
    · exact .returnInternal (by exact h) _
    · exact h

theorem State.PostsOnly.secondPulse : s.PostsOnly t.secondPulse := by
  unfold State.secondPulse; split
  · exact h.pulseInternal
  · exact h.pulseDisciplined

theorem State.PostsOnly.substituteTick : s.PostsOnly t.substituteTick := by
  have ticked := h.tick (t.clock.lastTick + Config.periodsPerSecond)
  unfold State.substituteTick; dsimp only; split
  · exact .returnInternal (by exact ticked) _
  · exact ticked

theorem State.PostsOnly.postCalibrationEnd (o : RdonOutcome) : s.PostsOnly (t.postCalibrationEnd o) := by
  unfold State.postCalibrationEnd; split
  · exact h.post _ _
  · exact h

theorem State.PostsOnly.reportLevel (c : LevlCause) : s.PostsOnly (t.reportLevel c) := .postBoth (by exact h) _

theorem State.PostsOnly.judgeUnlevel (f : Frame) : s.PostsOnly (t.judgeUnlevel f) := by
  unfold State.judgeUnlevel; dsimp only; split
  · split
    · exact .reportLevel (by exact h) _
    · exact h
  · exact h

theorem State.PostsOnly.judgeLevel (f : Frame) : s.PostsOnly (t.judgeLevel f) := by
  unfold State.judgeLevel; dsimp only; split
  · exact .reportLevel (by exact h) _
  · split
    · exact .reportLevel (by exact h) _
    · exact h

theorem State.PostsOnly.levelFrame (f : Frame) : s.PostsOnly (t.levelFrame f) := by
  unfold State.levelFrame; dsimp only; split
  · exact .judgeUnlevel (by exact h) _
  · exact .judgeLevel (by exact h) _

theorem State.PostsOnly.reinitLevel : s.PostsOnly t.reinitLevel := by
  unfold State.reinitLevel; dsimp only; split
  · exact .reportLevel (by exact h) _
  · exact h

theorem State.PostsOnly.thermalFrame (f : Frame) : s.PostsOnly (t.thermalFrame f) := by
  unfold State.thermalFrame; dsimp only; split
  · exact h
  · exact .postBoth (by exact h) _

theorem State.PostsOnly.reinitThermal : s.PostsOnly t.reinitThermal := by
  unfold State.reinitThermal; dsimp only; split <;> split
  · exact h
  · exact .postBoth (by exact h) _
  · exact h
  · exact .postBoth (by exact h) _

theorem State.PostsOnly.groupEffect (id : GroupId) : s.PostsOnly (t.groupEffect id) := by
  unfold State.groupEffect; split
  · exact h.reinitLevel
  · exact h.reinitThermal
  · exact h
  · exact h

theorem State.PostsOnly.postMode (k : ModeKind) (g : Nat) : s.PostsOnly (t.postMode k g) := h.postBoth _

theorem State.PostsOnly.enterSetup : s.PostsOnly t.enterSetup := .postBoth (by exact h) _

theorem State.PostsOnly.postArch (k : ArchKind) (o p : Option Nat) : s.PostsOnly (t.postArch k o p) := h.postBoth _

theorem State.PostsOnly.releaseArchive : s.PostsOnly t.releaseArchive := by
  unfold State.releaseArchive; split
  · exact .postArch (by exact h) _ _ _
  · exact h

theorem State.PostsOnly.enterSurvey : s.PostsOnly t.enterSurvey := by
  have levelled : s.PostsOnly (State.reinitLevel { t with model := { t.model with
    generation := (t.model.generation + 1) % 65536 } }) := .reinitLevel (by exact h)
  exact .postMode (by exact .releaseArchive (by exact levelled)) _ _

theorem State.PostsOnly.endReading (r : Reading) (o : RdonOutcome) (c : Option RdonCause) :
    s.PostsOnly (t.endReading r o c) := .postBoth (by exact h) _

theorem State.PostsOnly.finish (r : Reading) : s.PostsOnly (t.finish r) := by
  unfold State.finish; split
  · exact .endReading (by exact h) _ _ _
  · exact h.endReading _ _ _

theorem State.PostsOnly.armReading (r : Reading) : s.PostsOnly (t.armReading r) := by
  simpa [State.PostsOnly] using h

theorem State.PostsOnly.settled (r : Reading) : s.PostsOnly (t.settled r) := by
  simpa [State.PostsOnly] using h

theorem State.PostsOnly.afterGate (r : Reading) : s.PostsOnly (t.afterGate r) := by
  unfold State.afterGate; split
  · exact h.finish r
  · split
    · exact h.finish r
    · split
      · exact h
      · exact h.armReading r

theorem State.PostsOnly.loseLevel (r : Reading) : s.PostsOnly (t.loseLevel r) := by
  unfold State.loseLevel; split
  · exact h
  · dsimp only; split <;> split
    · exact .finish (by exact h) _
    · exact h
    · exact .finish (by exact h) _
    · exact h

theorem State.PostsOnly.noticed (l : LevelState) : s.PostsOnly (t.noticed l) := by
  unfold State.noticed; split
  · exact h
  · split
    · exact h.armReading _
    · exact h.loseLevel _
    · exact h

theorem State.PostsOnly.cancelQueued (q : QueueEntry) : s.PostsOnly (t.cancelQueued q) := .postBoth (by exact h) _

theorem State.PostsOnly.cancelInFlight (r : Reading) : s.PostsOnly (t.cancelInFlight r) := by
  unfold State.cancelInFlight; dsimp only; split
  · exact .endReading (by exact h) _ _ _
  · exact h.endReading _ _ _

theorem State.PostsOnly.postFullIf (full : Bool) : s.PostsOnly (t.postFullIf full) := by
  unfold State.postFullIf; split
  · exact h.postArch _ _ _
  · exact h

theorem State.PostsOnly.programSucceeds (b : BufferId) (r : StagedRecord) : s.PostsOnly (t.programSucceeds b r) :=
  .postFullIf (.postArch (by exact h) _ _ _) _

theorem State.PostsOnly.programFails (b : BufferId) (r : StagedRecord) : s.PostsOnly (t.programFails b r) := by
  unfold State.programFails; dsimp only; split
  · exact .postFullIf (by exact h) _
  · exact .postArch (by exact h) _ _ _

theorem State.PostsOnly.resumeArchive : s.PostsOnly t.resumeArchive := .postArch (by exact h) _ _ _

theorem State.PostsOnly.postReset : s.PostsOnly t.postReset := h.postBoth _

end

end Sys2Proof.Machine
end

section
/-!
PROOFS. Chapter 10: everything a command can do to a port, and what follows for both: the lines, the counts, the receivers and
the responses (R158, R160 to R165), and the port that a request is not sent to.
-/

namespace Sys2Proof.Machine

/-! ### What the rules do to the ports -/

/-- A port after the rule of a request it took, before the answer is formed: posted to, read, acknowledged or configured. -/
inductive PortState.AfterRule (q : PortState) : PortState → Prop
  | posts {r : PortState} : q.AfterPosts r → q.AfterRule r
  | cleared : q.AfterRule q.clearCounts
  | acknowledged (f : EventFlag) (n : Nat) : q.AfterRule (q.acknowledge f n)
  | configured (c : PortConfig) : q.AfterRule (q.configure c)

/-- What a rule does to the ports: to the port it serves what `AfterRule` has, to the other one postings alone. -/
def State.RuleOn (s : State) (p : Port) (t : State) : Prop :=
  (s.port p).AfterRule (t.port p) ∧ (s.port p.other).AfterPosts (t.port p.other)

section
variable {s t : State} {p : Port}

theorem State.PostsOnly.ruleOn (h : s.PostsOnly t) (p : Port) : s.RuleOn p t := ⟨.posts (h.port p), h.port p.other⟩

theorem State.ruleOn_setPort {q : PortState} (h : (s.port p).AfterRule q) : s.RuleOn p (s.setPort p q) :=
  ⟨by simpa using h, by simpa using .refl⟩

end

section
variable (s : State)

theorem cgatReply_postsOnly (p : Port) (l : List Byte) : s.PostsOnly (cgatReply p l s).state := by
  unfold cgatReply State.sized; dsimp only; repeat' split
  all_goals simp [State.PostsOnly, PortState.AfterPosts.refl]

theorem ckstReply_postsOnly (l : List Byte) : s.PostsOnly (ckstReply l s).state := by
  unfold ckstReply State.sized; dsimp only; repeat' split
  all_goals first | exact .refl s | exact .postBoth (by exact .refl s) _

theorem mdwrReply_postsOnly (l : List Byte) : s.PostsOnly (mdwrReply l s).state := by
  unfold mdwrReply; repeat' split
  all_goals first | exact .refl s | exact .groupEffect (by exact .refl s) _

theorem setuReply_postsOnly (l : List Byte) : s.PostsOnly (setuReply l s).state := by
  unfold setuReply State.sized; repeat' split
  all_goals first | exact .refl s | exact .enterSetup (.refl s)

theorem survReply_postsOnly (l : List Byte) : s.PostsOnly (survReply l s).state := by
  unfold survReply State.sized; repeat' split
  all_goals first | exact .refl s | exact .enterSurvey (.refl s)

theorem mdstReply_postsOnly (l : List Byte) : s.PostsOnly (mdstReply l s).state := by
  unfold mdstReply State.sized; repeat' split
  all_goals exact .refl s

theorem rdrqReply_postsOnly (p : Port) (l : List Byte) : s.PostsOnly (rdrqReply p l s).state := by
  unfold rdrqReply State.sized; dsimp only; repeat' split
  all_goals exact .refl s

theorem rdcnReply_postsOnly (p : Port) (l : List Byte) : s.PostsOnly (rdcnReply p l s).state := by
  unfold rdcnReply State.sized; dsimp only; repeat' split
  all_goals first | exact .refl s | exact .cancelQueued (.refl s) _ | exact .cancelInFlight (.refl s) _

theorem stdfReply_postsOnly (p : Port) (l : List Byte) : s.PostsOnly (stdfReply p l s).state := by
  unfold stdfReply State.sized; dsimp only; repeat' split
  all_goals exact .refl s

theorem strmReply_postsOnly (p : Port) (l : List Byte) : s.PostsOnly (strmReply p l s).state := by
  unfold strmReply State.sized; dsimp only; repeat' split
  all_goals exact .refl s

theorem ocopReply_postsOnly (p : Port) (l : List Byte) : s.PostsOnly (ocopReply p l s).state := by
  unfold ocopReply State.sized; dsimp only; repeat' split
  all_goals exact .refl s

theorem occlReply_postsOnly (p : Port) (l : List Byte) : s.PostsOnly (occlReply p l s).state := by
  unfold occlReply State.sized State.closeOccupation; dsimp only; repeat' split
  all_goals exact .refl s

theorem ocdsReply_postsOnly (p : Port) (l : List Byte) : s.PostsOnly (ocdsReply p l s).state := by
  unfold ocdsReply State.sized State.discardOccupation; repeat' split
  all_goals exact .refl s

theorem arrtReply_postsOnly (l : List Byte) : s.PostsOnly (arrtReply l s).state := by
  unfold arrtReply State.sized; dsimp only; repeat' split
  all_goals first | exact .refl s | exact .resumeArchive (.refl s)

theorem arskReply_postsOnly (p : Port) (l : List Byte) : s.PostsOnly (arskReply p l s).state := by
  unfold arskReply State.sized State.seekReply; repeat' split
  all_goals exact .refl s

theorem arnxReply_postsOnly (p : Port) (l : List Byte) : s.PostsOnly (arnxReply p l s).state := by
  unfold arnxReply State.sized State.stepCursor; dsimp only; repeat' split
  all_goals exact .refl s

theorem rstrReply_postsOnly (p : Port) (l : List Byte) : s.PostsOnly (rstrReply p l s).state := by
  unfold rstrReply State.sized; split
  all_goals exact .refl s

theorem peerReply_postsOnly (p : Port) (l : List Byte) : s.PostsOnly (peerReply p l s).state := by
  unfold peerReply; split
  · exact .post (.refl s) _ _
  · exact .refl s

theorem evrdReply_ruleOn (p : Port) (l : List Byte) : s.RuleOn p (evrdReply p l s).state := by
  unfold evrdReply State.sized; repeat' split
  · exact State.ruleOn_setPort .cleared
  all_goals exact State.PostsOnly.ruleOn (.refl s) p

theorem evakReply_ruleOn (p : Port) (l : List Byte) : s.RuleOn p (evakReply p l s).state := by
  unfold evakReply State.sized; dsimp only; repeat' split
  case h_2 => exact State.ruleOn_setPort (.acknowledged _ _)
  all_goals exact State.PostsOnly.ruleOn (.refl s) p

theorem evcfReply_ruleOn (p : Port) (l : List Byte) : s.RuleOn p (evcfReply p l s).state := by
  unfold evcfReply State.sized; repeat' split
  case h_2 => exact State.ruleOn_setPort (.configured _)
  all_goals exact State.PostsOnly.ruleOn (.refl s) p

/-- What any request's rule does to the ports. -/
theorem requestRule_ruleOn {c : Instr} {p : Port} {tag : Byte} {name : List Byte} (h : c.request = some (p, tag, name)) :
    s.RuleOn p (requestRule c s).state := by
  cases c <;> simp only [Instr.request, Option.some.injEq, Prod.mk.injEq, reduceCtorEq] at h <;> obtain ⟨rfl, -, -⟩ := h
  case evrd => exact evrdReply_ruleOn ..
  case evak => exact evakReply_ruleOn ..
  case evcf => exact evcfReply_ruleOn ..
  all_goals refine State.PostsOnly.ruleOn ?_ _
  case cgat => exact cgatReply_postsOnly ..
  case ckst => exact ckstReply_postsOnly ..
  case mdwr => exact mdwrReply_postsOnly ..
  case setu => exact setuReply_postsOnly ..
  case surv => exact survReply_postsOnly ..
  case mdst => exact mdstReply_postsOnly ..
  case rdrq => exact rdrqReply_postsOnly ..
  case rdcn => exact rdcnReply_postsOnly ..
  case stdf => exact stdfReply_postsOnly ..
  case strm => exact strmReply_postsOnly ..
  case ocop => exact ocopReply_postsOnly ..
  case occl => exact occlReply_postsOnly ..
  case ocds => exact ocdsReply_postsOnly ..
  case arrt => exact arrtReply_postsOnly ..
  case arsk => exact arskReply_postsOnly ..
  case arnx => exact arnxReply_postsOnly ..
  case rstr => exact rstrReply_postsOnly ..
  case peer => exact peerReply_postsOnly ..
  all_goals simp [requestRule, State.PostsOnly.refl]

end

/-! ### What the events do to the ports -/

/-- Everything a command can do to a port. -/
inductive PortState.Moves (q : PortState) : PortState → Prop
  | posts {r : PortState} : q.AfterPosts r → q.Moves r
  | answered {r : PortState} (tag : Byte) (st : Status) (l : List Byte) : q.response = none → q.AfterRule r →
      q.Moves { r with received := [], response := some (responseFrame tag st l), sent := 0 }
  | discarded : q.Moves { q with received := [] }
  | responded : q.Moves { q with response := none, sent := 0 }
  | pulsed : q.Moves q.givePulse
  | restarted (d : Detail) : q.Moves (q.restarted.post d)
  | reset : q.Moves .reset

section
variable {s t : State}

theorem State.PostsOnly.moves (h : s.PostsOnly t) (p : Port) : (s.port p).Moves (t.port p) := .posts (h.port p)

/-- One port moves, the other stays. -/
theorem State.moves_setPort {p : Port} {q : PortState} (h : (s.port p).Moves q) (o : Port) :
    (s.port o).Moves ((s.setPort p q).port o) := by
  cases p <;> cases o <;> first | exact h | exact .posts .refl

theorem State.moves_answer {p : Port} (idle : (s.port p).response = none) (h : s.RuleOn p t) (tag : Byte) (st : Status)
    (l : List Byte) (o : Port) : (s.port o).Moves ((t.answer p tag st l).port o) := by
  obtain ⟨own, other⟩ := h
  cases p <;> cases o
  · exact .answered tag st l idle own
  · exact .posts other
  · exact .posts other
  · exact .answered tag st l idle own

theorem State.serveAlways_moves (p : Port) (tag : Byte) {rule : State → Reply} (h : s.RuleOn p (rule s).state) (o : Port) :
    (s.port o).Moves ((s.serveAlways p tag rule).port o) := by
  rcases s.serveAlways_cases p tag rule with ⟨_, e⟩ | ⟨idle, e⟩ <;> rw [e]
  · exact .posts .refl
  · exact State.moves_answer idle h tag _ _ o

theorem State.restart_moves (p o : Port) : (s.port o).Moves ((s.restart p).port o) := by
  cases o <;> exact .restarted _

/-- The ports after an evaluation that completes. -/
theorem State.evaluate_postsOnly {u : State} {r : Reading} {held : HeldGate} {c : ThermalReport} (h : s.PostsOnly u)
    (e : u.evaluate r held c = .next t) : s.PostsOnly t := by
  rcases u.evaluate_cases r held c with ⟨d, _, e'⟩ | ⟨_, _, _, _, _, _, _, e'⟩ | ⟨⟨f, e'⟩, _⟩ <;> rw [e'] at e <;> cases e
  · exact .afterGate (by exact h) _
  · exact .afterGate (by exact h) _

theorem execCompletionReport_postsOnly (h : execCompletionReport s = .next t) : s.PostsOnly t := by
  rcases execCompletionReport_cases s with e | ⟨l, e⟩ | ⟨l, c, r, _, _, e⟩
  · rw [e] at h; cases h; exact .refl s
  · rw [e] at h; cases h; exact .refl s
  · rw [e] at h
    rcases (s.withReports l).takeCompletion_cases r c with ⟨_, _, e⟩ | ⟨held, e⟩ | ⟨held, report, _, e⟩
    · rw [e] at h; cases h
    · rw [e] at h; cases h; exact .refl s
    · exact State.evaluate_postsOnly (by exact .refl s) (e ▸ h)

theorem execThermalReport_postsOnly (h : execThermalReport s = .next t) : s.PostsOnly t := by
  rcases execThermalReport_cases s with ⟨_, e⟩ | ⟨c, l, _, ⟨_, e⟩ | ⟨r, _, e | ⟨held, _, e⟩⟩⟩
  · rw [e] at h; cases h; exact .refl s
  · rw [e] at h; cases h; exact .refl s
  · rw [e] at h; cases h; exact .refl s
  · exact State.evaluate_postsOnly (by exact .refl s) (e ▸ h)

theorem execLevelNotice_postsOnly (h : execLevelNotice s = .next t) : s.PostsOnly t := by
  simp only [execLevelNotice, Host.Outcome.next.injEq] at h; subst h; split
  · exact .refl s
  · exact .noticed (by exact .refl s) _

theorem execTimeoutReport_postsOnly (h : execTimeoutReport s = .next t) : s.PostsOnly t := by
  rcases execTimeoutReport_cases s with e | ⟨l, e⟩ | ⟨l, g, r, _, _, e⟩ <;> rw [e] at h <;> cases h
  · exact .refl s
  · exact .refl s
  · exact .afterGate (by exact .refl s) _

theorem execCalibrationGateEnd_postsOnly (h : execCalibrationGateEnd s = .next t) : s.PostsOnly t := by
  simp only [execCalibrationGateEnd, Host.Outcome.next.injEq] at h; subst h; split
  · exact .postCalibrationEnd (by exact .refl s) _
  · exact .postCalibrationEnd (by exact .refl s) _
  · exact .refl s

theorem execModelLoadEnd_postsOnly (h : execModelLoadEnd s = .next t) : s.PostsOnly t := by
  simp only [execModelLoadEnd, Host.Outcome.next.injEq] at h; subst h; split
  · exact .postReset (by exact .refl s)
  · exact .refl s

theorem execMountEnd_postsOnly (h : execMountEnd s = .next t) : s.PostsOnly t := by
  simp only [execMountEnd, Host.Outcome.next.injEq] at h; subst h; split
  · exact .postArch (by exact .refl s) _ _ _
  · exact .refl s

theorem execLevelMonitorFrame_postsOnly (h : execLevelMonitorFrame s = .next t) : s.PostsOnly t := by
  simp only [execLevelMonitorFrame, Host.Outcome.next.injEq] at h; subst h; split
  · exact .refl s
  · exact .levelFrame (by exact .refl s) _

theorem execThermalTrackerFrame_postsOnly (h : execThermalTrackerFrame s = .next t) : s.PostsOnly t := by
  simp only [execThermalTrackerFrame, Host.Outcome.next.injEq] at h; subst h; split
  · exact .refl s
  · exact .thermalFrame (by exact .refl s) _

theorem execInternalTick_postsOnly (h : execInternalTick s = .next t) : s.PostsOnly t := by
  simp only [execInternalTick, Host.Outcome.next.injEq] at h; subst h; split
  · exact .tick (.refl s) _
  · exact .refl s

theorem execSecondPulse_postsOnly (h : Host.Outcome.next s.secondPulse = (.next t : Result)) : s.PostsOnly t := by
  cases h; exact .secondPulse (.refl s)

theorem execPulseWindowExpiry_postsOnly (h : execPulseWindowExpiry s = .next t) : s.PostsOnly t := by
  simp only [execPulseWindowExpiry, Host.Outcome.next.injEq] at h; subst h; split
  · exact .substituteTick (.refl s)
  · exact .refl s

theorem execLevelWaitExpiry_postsOnly (h : execLevelWaitExpiry s = .next t) : s.PostsOnly t := by
  simp only [execLevelWaitExpiry, Host.Outcome.next.injEq] at h; subst h; repeat' split
  all_goals first | exact .refl s | exact .endReading (.refl s) _ _ _

theorem execPageProgramSuccess_postsOnly (h : execPageProgramSuccess s = .next t) : s.PostsOnly t := by
  simp only [execPageProgramSuccess, Host.Outcome.next.injEq] at h; subst h; repeat' split
  all_goals first | exact .refl s | exact .programSucceeds (.refl s) _ _

theorem execPageProgramFailure_postsOnly (h : execPageProgramFailure s = .next t) : s.PostsOnly t := by
  simp only [execPageProgramFailure, Host.Outcome.next.injEq] at h; subst h; repeat' split
  all_goals first | exact .refl s | exact .programFails (.refl s) _ _

theorem execModelStoreCompletion_postsOnly (v : Bool) (h : execModelStoreCompletion v s = .next t) : s.PostsOnly t := by
  simp only [execModelStoreCompletion, Host.Outcome.next.injEq] at h; subst h; split
  · exact .postMode (by exact .refl s) _ _
  · exact .refl s

theorem execResponseSent_moves (p : Port) (h : execResponseSent p s = .next t) (o : Port) : (s.port o).Moves (t.port o) := by
  simp only [execResponseSent, Host.Outcome.next.injEq] at h; subst h; split
  · split
    · cases p <;> cases o <;> exact .restarted _
    · exact State.moves_setPort .responded o
  · exact .posts .refl

theorem execRestartTimerExpiry_moves (h : execRestartTimerExpiry s = .next t) (o : Port) :
    (s.port o).Moves (t.port o) := by
  simp only [execRestartTimerExpiry, Host.Outcome.next.injEq] at h; subst h; repeat' split
  · exact State.restart_moves _ o
  all_goals exact .posts .refl

/-- Everything a command can do to each port. -/
theorem exec_moves {c : Instr} (h : exec c s = .next t) (o : Port) : (s.port o).Moves (t.port o) := by
  by_cases still : Block.ports ∈ footprint c
  case neg =>
    obtain ⟨a, b⟩ := (exec_agreesOff h).ports still
    exact State.PostsOnly.moves ⟨a ▸ .refl, b ▸ .refl⟩ o
  cases request : c.request with
  | some x =>
    obtain ⟨p, tag, name⟩ := x
    rcases exec_request_cases request h with ⟨_, rfl⟩ | ⟨idle, _, _, rfl⟩ | ⟨idle, _, rfl⟩
    · exact .posts .refl
    · exact State.moves_answer idle (State.PostsOnly.ruleOn (.refl s) p) tag _ _ o
    · exact State.moves_answer idle (requestRule_ruleOn s request) tag _ _ o
  | none =>
    cases c <;> simp only [Instr.request, reduceCtorEq] at request
    case powerReset | lineReset => cases h; cases o <;> exact .reset
    case modelLoadEnd => exact (execModelLoadEnd_postsOnly h).moves o
    case mountEnd => exact (execMountEnd_postsOnly h).moves o
    case frameLengthError p tag n =>
      cases h; split
      · exact State.serveAlways_moves p tag (rule := framReply 0) (State.PostsOnly.ruleOn (.refl s) p) o
      · exact .posts .refl
    case frameCheckError p tag => cases h; exact State.serveAlways_moves p tag (rule := framReply 1) (State.PostsOnly.ruleOn (.refl s) p) o
    case lineError | frameGapExpiry | selectRelease => cases h; exact State.moves_setPort .discarded o
    case responseSent p => exact execResponseSent_moves p h o
    case restartTimerExpiry => exact execRestartTimerExpiry_moves h o
    case atnPulse p => cases h; exact State.moves_setPort .pulsed o
    case levelMonitorFrame => exact (execLevelMonitorFrame_postsOnly h).moves o
    case thermalTrackerFrame => exact (execThermalTrackerFrame_postsOnly h).moves o
    case calibrationGateEnd => exact (execCalibrationGateEnd_postsOnly h).moves o
    case internalTick => exact (execInternalTick_postsOnly h).moves o
    case secondPulseInternal | secondPulseDisciplined => exact (execSecondPulse_postsOnly h).moves o
    case pulseWindowExpiry => exact (execPulseWindowExpiry_postsOnly h).moves o
    case levelWaitExpiry => exact (execLevelWaitExpiry_postsOnly h).moves o
    case levelNotice => exact (execLevelNotice_postsOnly h).moves o
    case completionReport => exact (execCompletionReport_postsOnly h).moves o
    case timeoutReport => exact (execTimeoutReport_postsOnly h).moves o
    case thermalReport => exact (execThermalReport_postsOnly h).moves o
    case pageProgramSuccess => exact (execPageProgramSuccess_postsOnly h).moves o
    case pageProgramFailure => exact (execPageProgramFailure_postsOnly h).moves o
    case modelStoreCompletion v => exact (execModelStoreCompletion_postsOnly v h).moves o
    all_goals simp [footprint] at still

end

end Sys2Proof.Machine
end

section
/-!
PROOFS. Chapter 10: every step keeps the lines, the counts, the receivers and the responses (R158, R160 to R165); a request is
answered once, a refusal changes nothing else (R161), and the other port is left alone (R158, R162, R168).
-/

namespace Sys2Proof.Machine

/-! ### The attention lines -/

section
variable {q r : PortState}

theorem PortState.AfterPosts.lineFollows (h : q.AfterPosts r) (hq : q.LineFollows) : r.LineFollows := by
  cases h with
  | refl => exact hq
  | post d _ => exact PortState.post_follows _ d

theorem PortState.AfterRule.lineFollows (h : q.AfterRule r) (hq : q.LineFollows) : r.LineFollows := by
  cases h with
  | posts h => exact h.lineFollows hq
  | cleared => exact q.clearCounts_follows
  | acknowledged f n => exact q.acknowledge_follows f n
  | configured c => exact q.configure_follows c

theorem PortState.Moves.lineFollows (h : q.Moves r) (hq : q.LineFollows) : r.LineFollows := by
  cases h with
  | posts h => exact h.lineFollows hq
  | answered tag st l _ h => exact h.lineFollows hq
  | discarded => exact hq
  | responded => exact hq
  | pulsed => exact PortState.givePulse_follows hq
  | restarted d => exact PortState.post_follows _ d
  | reset => simp [PortState.LineFollows, PortState.reset]

theorem PortState.SameEvents.lineFollows (h : r.SameEvents q) (hq : q.LineFollows) : r.LineFollows := by
  unfold PortState.LineFollows at *
  rw [h.config, h.flags, h.atn]; exact hq

/-! ### The counts -/

theorem PortState.countsHeld_post (h : q.CountsHeld) (d : Detail) : (q.post d).CountsHeld := by
  obtain ⟨counts, pulses⟩ := h
  refine ⟨fun f => ?_, ?_⟩
  · rw [PortState.post_flags]
    by_cases own : f = d.flag
    · subst own; rw [PerFlag.get_set_same]; exact heldSucc_le (counts _)
    · rw [PerFlag.get_set_other _ _ own]; exact counts f
  · change (if _ then heldSucc q.pulses else q.pulses) ≤ 255
    split
    · exact heldSucc_le pulses
    · exact pulses

theorem PortState.AfterPosts.countsHeld (h : q.AfterPosts r) (hq : q.CountsHeld) : r.CountsHeld := by
  induction h with
  | refl => exact hq
  | post d _ ih => exact PortState.countsHeld_post ih d

theorem PortState.AfterRule.countsHeld (h : q.AfterRule r) (hq : q.CountsHeld) : r.CountsHeld := by
  obtain ⟨counts, pulses⟩ := hq
  cases h with
  | posts h => exact h.countsHeld ⟨counts, pulses⟩
  | cleared => exact ⟨fun f => by simp [PortState.clearCounts], pulses⟩
  | acknowledged f n =>
    refine ⟨fun g => ?_, pulses⟩
    by_cases own : g = f
    · subst own
      simp only [PortState.acknowledge, PortState.settle_flags, PerFlag.get_set_same]
      exact le_trans (Nat.sub_le _ _) (counts g)
    · simp only [PortState.acknowledge, PortState.settle_flags, PerFlag.get_set_other _ _ own]
      exact counts g
  | configured c =>
    refine ⟨counts, ?_⟩
    simp only [PortState.configure, PortState.settle_pulses]
    split
    · exact Nat.zero_le _
    · exact pulses

theorem PortState.restarted_countsHeld (q : PortState) : q.restarted.CountsHeld :=
  ⟨fun f => by simp [PortState.restarted], by simp [PortState.restarted]⟩

theorem PortState.Moves.countsHeld (h : q.Moves r) (hq : q.CountsHeld) : r.CountsHeld := by
  cases h with
  | posts h => exact h.countsHeld hq
  | answered tag st l _ h => exact h.countsHeld hq
  | discarded => exact hq
  | responded => exact hq
  | pulsed =>
    unfold PortState.givePulse
    split
    · exact ⟨hq.1, le_trans (Nat.sub_le _ _) hq.2⟩
    · exact hq
  | restarted d => exact PortState.countsHeld_post q.restarted_countsHeld d
  | reset => exact ⟨fun f => by simp [PortState.reset], by simp [PortState.reset]⟩

theorem PortState.SameEvents.countsHeld (h : r.SameEvents q) (hq : q.CountsHeld) : r.CountsHeld := by
  unfold PortState.CountsHeld at *
  rw [h.flags, h.pulses]; exact hq

end

/-! ### From the ports to the steps -/

/-- What a byte time and every move of a port keep, every step keeps of both ports. -/
theorem step_keeps_ports {P : PortState → Prop} (moved : ∀ {q r}, q.Moves r → P q → P r)
    (timed : ∀ {q r}, r.SameEvents q → P q → P r) {s t : State} (h : step s = .next t) (hs : P s.portA ∧ P s.portB) :
    P t.portA ∧ P t.portB := by
  rcases step_cases h with ⟨_, e⟩ | ⟨c, rest, _, e⟩
  · obtain ⟨a, b, i, cs, e', ha, hb⟩ := s.byteTime_cases
    rw [e'] at e; cases e
    exact ⟨timed ha hs.1, timed hb hs.2⟩
  · exact ⟨moved (exec_moves e.symm .a) hs.1, moved (exec_moves e.symm .b) hs.2⟩

/-! ### Receivers and responses -/

section
variable {q r : PortState}

theorem responseFrame_length (tag : Byte) (st : Status) (l : List Byte) :
    (responseFrame tag st l).length = 9 + l.length := by
  cases st <;> simp [responseFrame, frameBytes, Status.name, letters] <;> omega

/-- A port in order while commands wait: within one frame, deaf while a response is unsent, and the place within it until
its end is among those waiting. -/
structure PortState.InOrder (q : PortState) (p : Port) (waiting : List Instr) : Prop where
  frames : receiveFrame p q.received = .incomplete
  deaf : q.response ≠ none → q.received = []
  place : ∀ l, q.response = some l → q.sent < l.length ∨ .responseSent p ∈ waiting

theorem State.portsInOrder_iff (s : State) : s.PortsInOrder ↔ ∀ p, (s.port p).InOrder p s.pending :=
  ⟨fun h p => ⟨h.frames p, h.deaf p, h.place p⟩,
    fun h => ⟨fun p => (h p).frames, fun p => (h p).deaf, fun p => (h p).place⟩⟩

theorem PortState.InOrder.mono {p : Port} {l m : List Instr} (h : q.InOrder p l) (sub : ∀ c ∈ l, c ∈ m) : q.InOrder p m :=
  ⟨h.frames, h.deaf, fun x hx => (h.place x hx).imp_right (sub _)⟩

/-- A port with nothing received and nothing to send is in order. -/
theorem PortState.inOrder_of_idle {p : Port} {l : List Instr} (received : q.received = []) (response : q.response = none) :
    q.InOrder p l :=
  ⟨by rw [received]; rfl, fun _ => received, fun x hx => by rw [response] at hx; cases hx⟩

/-- What postings leave of a port. -/
theorem PortState.AfterPosts.same (h : q.AfterPosts r) :
    r.received = q.received ∧ r.response = q.response ∧ r.sent = q.sent ∧ r.driven = q.driven ∧ r.config = q.config := by
  induction h with
  | refl => exact ⟨rfl, rfl, rfl, rfl, rfl⟩
  | post d _ ih => simpa using ih

theorem PortState.Moves.inOrder {p : Port} {l : List Instr} (h : q.Moves r) (hq : q.InOrder p l) : r.InOrder p l := by
  cases h with
  | posts h =>
    obtain ⟨received, response, sent, _, _⟩ := h.same
    obtain ⟨frames, deaf, place⟩ := hq
    exact ⟨received ▸ frames, by rwa [received, response], by rwa [sent, response]⟩
  | answered tag st x _ _ =>
    refine ⟨rfl, fun _ => rfl, fun y hy => .inl ?_⟩
    cases hy
    simp [responseFrame_length]
  | discarded => exact ⟨rfl, fun _ => rfl, hq.place⟩
  | responded => exact ⟨hq.frames, fun h => absurd rfl h, fun x hx => by cases hx⟩
  | pulsed =>
    unfold PortState.givePulse
    split
    · exact ⟨hq.frames, hq.deaf, hq.place⟩
    · exact hq
  | restarted d => exact PortState.inOrder_of_idle rfl rfl
  | reset => exact PortState.inOrder_of_idle rfl rfl

end

section
variable {s t : State}

theorem State.restart_response (p o : Port) : ((s.restart p).port o).response = none := by cases o <;> rfl

/-- The end of a response leaves the port with none. -/
theorem exec_responseSent_response {p : Port} (h : exec (.responseSent p) s = .next t) : (t.port p).response = none := by
  cases h
  split
  next answering =>
    split
    · exact State.restart_response p p
    · simp
  next idle => simpa [State.answering] using idle

/-- A byte sent leaves the port in order: with the last one the end of the response joins the waiting commands (R162). -/
theorem State.sendByte_inOrder {p : Port} {l : List Byte} (h : (s.port p).InOrder p s.pending)
    (hl : (s.port p).response = some l) : ((s.sendByte p l).port p).InOrder p (s.sendByte p l).pending := by
  have received := h.deaf (by rw [hl]; simp)
  have moved (m : List Instr) (place : (s.port p).sent + 1 < l.length ∨ .responseSent p ∈ m) :
      PortState.InOrder { s.port p with sent := (s.port p).sent + 1, driven := some (l.getD (s.port p).sent fillByte) } p m :=
    ⟨h.frames, h.deaf, fun x hx => by cases hl.symm.trans hx; exact place⟩
  unfold State.sendByte
  dsimp only
  split
  · cases p <;> exact moved _ (.inr (by simp))
  next more => rw [State.port_setPort_same]; exact moved _ (.inl (by omega))

/-- A byte received leaves the port in order (R160). -/
theorem State.receiveByte_inOrder {p : Port} (idle : (s.port p).response = none) (v : Byte) :
    ((s.receiveByte p v).port p).InOrder p (s.receiveByte p v).pending := by
  have none_sent {x : List Byte} (hx : (s.port p).response = some x) : False := by rw [idle] at hx; cases hx
  cases p <;>
    exact ⟨receiveFrame_receivedAfter _ _, fun h => absurd idle h, fun x hx => (none_sent hx).elim⟩

/-- A byte time of a port keeps that port in order. -/
theorem State.portByteTime_inOrder {p : Port} (h : (s.port p).InOrder p s.pending) :
    ((s.portByteTime p).port p).InOrder p (s.portByteTime p).pending := by
  have sends {l : List Byte} (i : Incoming) (hl : (s.port p).response = some l) :
      (((State.sendByte { s with incoming := i } p l).port p)).InOrder p
        (State.sendByte { s with incoming := i } p l).pending := by
    cases p <;> exact State.sendByte_inOrder (s := { s with incoming := i }) h hl
  unfold State.portByteTime
  dsimp only
  split
  · exact h
  next idle _ => cases p <;> exact State.receiveByte_inOrder (s := { s with incoming := _ }) idle _
  next hl _ => exact sends _ hl
  next hl _ =>
    cases p
    · exact h
    · exact State.sendByte_inOrder h hl

/-- A byte time of a port leaves the other port, and every command that waits. -/
theorem State.portByteTime_rest (s : State) (p : Port) :
    (s.portByteTime p).port p.other = s.port p.other ∧ ∀ c ∈ s.pending, c ∈ (s.portByteTime p).pending := by
  obtain ⟨q, i, cs, e, _⟩ := s.portByteTime_cases p
  rw [e]
  exact ⟨by cases p <;> rfl, fun c hc => List.mem_append_left cs hc⟩

theorem State.byteTime_inOrder (h : s.PortsInOrder) : s.byteTime.PortsInOrder := by
  rw [State.portsInOrder_iff] at *
  obtain ⟨bA, keptA⟩ := s.portByteTime_rest .a
  obtain ⟨aB, keptB⟩ := (s.portByteTime .a).portByteTime_rest .b
  have a := State.portByteTime_inOrder (h .a)
  have b : ((s.portByteTime .a).port .b).InOrder .b (s.portByteTime .a).pending := by
    rw [show (s.portByteTime .a).port .b = s.port .b from bA]
    exact (h .b).mono keptA
  intro p
  cases p
  · rw [State.byteTime, show ((s.portByteTime .a).portByteTime .b).port .a = (s.portByteTime .a).port .a from aB]
    exact a.mono keptB
  · exact State.portByteTime_inOrder b

/-- A command keeps both ports in order: it moves them, and it is itself the end of a response only where it ends it. -/
theorem exec_inOrder {c : Instr} {rest : List Instr} (h : exec c { s with pending := rest } = .next t)
    (hs : ∀ p, (s.port p).InOrder p (c :: rest)) : t.PortsInOrder := by
  rw [State.portsInOrder_iff]
  intro p
  have waiting : t.pending = rest := (exec_agreesOff h).pending
  have moved : (t.port p).InOrder p (c :: rest) := by
    have before := hs p
    have step := exec_moves h p
    cases p <;> exact step.inOrder before
  refine ⟨moved.frames, moved.deaf, fun l hl => ?_⟩
  rcases moved.place l hl with inside | due
  · exact .inl inside
  · rcases List.mem_cons.1 due with rfl | later
    · rw [exec_responseSent_response h] at hl; cases hl
    · exact .inr (waiting ▸ later)

end

/-- Settles O10: the lines and the counts are kept by every move of a port, the receivers and responses also by each byte. -/
theorem stepKeepsThePorts : Obligations.StepKeepsThePorts := by
  refine ⟨fun s t hs h => ?_, fun s t hs h => ?_, fun s t hs h => ?_⟩
  · exact step_keeps_ports PortState.Moves.lineFollows PortState.SameEvents.lineFollows h hs
  · exact step_keeps_ports PortState.Moves.countsHeld PortState.SameEvents.countsHeld h hs
  · rcases step_cases h with ⟨_, e⟩ | ⟨c, rest, waiting, e⟩
    · cases e; exact State.byteTime_inOrder hs
    · exact exec_inOrder e.symm (waiting ▸ s.portsInOrder_iff.1 hs)

/-! ### One answer, and the other port -/

/-- A reply that changes the state is OKAY, CLMP or EMPT (R161). -/
def Reply.RefusesAt (r : Reply) (s : State) : Prop :=
  r.status = .okay ∨ r.status = .clmp ∨ r.status = .empt ∨ r.state = s

section
variable (s : State)

theorem cgatReply_refusesAt (p : Port) (l : List Byte) : (cgatReply p l s).RefusesAt s := by
  unfold cgatReply State.sized; dsimp only; repeat' split
  all_goals simp [Reply.RefusesAt]

theorem ckstReply_refusesAt (l : List Byte) : (ckstReply l s).RefusesAt s := by
  unfold ckstReply State.sized; dsimp only; repeat' split
  all_goals simp [Reply.RefusesAt]

theorem mdwrReply_refusesAt (l : List Byte) : (mdwrReply l s).RefusesAt s := by
  unfold mdwrReply; repeat' split
  all_goals simp [Reply.RefusesAt]

theorem setuReply_refusesAt (l : List Byte) : (setuReply l s).RefusesAt s := by
  unfold setuReply State.sized; repeat' split
  all_goals simp [Reply.RefusesAt]

theorem survReply_refusesAt (l : List Byte) : (survReply l s).RefusesAt s := by
  unfold survReply State.sized; repeat' split
  all_goals simp [Reply.RefusesAt]

theorem mdstReply_refusesAt (l : List Byte) : (mdstReply l s).RefusesAt s := by
  unfold mdstReply State.sized; repeat' split
  all_goals simp [Reply.RefusesAt]

theorem rdrqReply_refusesAt (p : Port) (l : List Byte) : (rdrqReply p l s).RefusesAt s := by
  unfold rdrqReply State.sized; dsimp only; repeat' split
  all_goals simp [Reply.RefusesAt]

theorem rdcnReply_refusesAt (p : Port) (l : List Byte) : (rdcnReply p l s).RefusesAt s := by
  unfold rdcnReply State.sized; dsimp only; repeat' split
  all_goals simp [Reply.RefusesAt]

theorem stdfReply_refusesAt (p : Port) (l : List Byte) : (stdfReply p l s).RefusesAt s := by
  unfold stdfReply State.sized; dsimp only; repeat' split
  all_goals simp [Reply.RefusesAt]

theorem strmReply_refusesAt (p : Port) (l : List Byte) : (strmReply p l s).RefusesAt s := by
  unfold strmReply State.sized; dsimp only; repeat' split
  all_goals simp [Reply.RefusesAt]

theorem ocopReply_refusesAt (p : Port) (l : List Byte) : (ocopReply p l s).RefusesAt s := by
  unfold ocopReply State.sized; dsimp only; repeat' split
  all_goals simp [Reply.RefusesAt]

theorem occlReply_refusesAt (p : Port) (l : List Byte) : (occlReply p l s).RefusesAt s := by
  unfold occlReply State.sized State.closeOccupation; dsimp only; repeat' split
  all_goals simp [Reply.RefusesAt]

theorem ocdsReply_refusesAt (p : Port) (l : List Byte) : (ocdsReply p l s).RefusesAt s := by
  unfold ocdsReply State.sized State.discardOccupation; repeat' split
  all_goals simp [Reply.RefusesAt]

theorem arrtReply_refusesAt (l : List Byte) : (arrtReply l s).RefusesAt s := by
  unfold arrtReply State.sized; dsimp only; repeat' split
  all_goals simp [Reply.RefusesAt]

theorem arskReply_refusesAt (p : Port) (l : List Byte) : (arskReply p l s).RefusesAt s := by
  unfold arskReply State.sized State.seekReply; repeat' split
  all_goals simp [Reply.RefusesAt]

theorem arnxReply_refusesAt (p : Port) (l : List Byte) : (arnxReply p l s).RefusesAt s := by
  unfold arnxReply State.sized; dsimp only; repeat' split
  all_goals simp [Reply.RefusesAt]

theorem rstrReply_refusesAt (p : Port) (l : List Byte) : (rstrReply p l s).RefusesAt s := by
  unfold rstrReply State.sized; repeat' split
  all_goals simp [Reply.RefusesAt]

theorem evrdReply_refusesAt (p : Port) (l : List Byte) : (evrdReply p l s).RefusesAt s := by
  unfold evrdReply State.sized; repeat' split
  all_goals simp [Reply.RefusesAt]

theorem evakReply_refusesAt (p : Port) (l : List Byte) : (evakReply p l s).RefusesAt s := by
  unfold evakReply State.sized; dsimp only; repeat' split
  all_goals simp [Reply.RefusesAt]

theorem evcfReply_refusesAt (p : Port) (l : List Byte) : (evcfReply p l s).RefusesAt s := by
  unfold evcfReply State.sized; repeat' split
  all_goals simp [Reply.RefusesAt]

theorem peerReply_refusesAt (p : Port) (l : List Byte) : (peerReply p l s).RefusesAt s := by
  unfold peerReply; repeat' split
  all_goals simp [Reply.RefusesAt]

/-- Every rule changes the state only as it answers OKAY, CLMP or EMPT (R161). -/
theorem requestRule_refusesAt (c : Instr) : (requestRule c s).RefusesAt s := by
  cases c
  case cgat => exact cgatReply_refusesAt ..
  case ckst => exact ckstReply_refusesAt ..
  case mdwr => exact mdwrReply_refusesAt ..
  case setu => exact setuReply_refusesAt ..
  case surv => exact survReply_refusesAt ..
  case mdst => exact mdstReply_refusesAt ..
  case rdrq => exact rdrqReply_refusesAt ..
  case rdcn => exact rdcnReply_refusesAt ..
  case stdf => exact stdfReply_refusesAt ..
  case strm => exact strmReply_refusesAt ..
  case ocop => exact ocopReply_refusesAt ..
  case occl => exact occlReply_refusesAt ..
  case ocds => exact ocdsReply_refusesAt ..
  case arrt => exact arrtReply_refusesAt ..
  case arsk => exact arskReply_refusesAt ..
  case arnx => exact arnxReply_refusesAt ..
  case rstr => exact rstrReply_refusesAt ..
  case evrd => exact evrdReply_refusesAt ..
  case evak => exact evakReply_refusesAt ..
  case evcf => exact evcfReply_refusesAt ..
  case peer => exact peerReply_refusesAt ..
  all_goals simp [requestRule, Reply.RefusesAt]

end

/-- A rule that refuses leaves the state as it was (R161). -/
theorem requestRule_refusal (c : Instr) (s : State) (okay : (requestRule c s).status ≠ .okay)
    (clmp : (requestRule c s).status ≠ .clmp) (empt : (requestRule c s).status ≠ .empt) : (requestRule c s).state = s :=
  (((requestRule_refusesAt s c).resolve_left okay).resolve_left clmp).resolve_left empt

/-- Settles O6: a served request is answered by its rule or BUSY, and a rule that refuses leaves the state. -/
theorem refusedRequestsChangeNothing : Obligations.RefusedRequestsChangeNothing := by
  intro c s p tag name request idle
  rw [exec_of_request request]
  obtain ⟨t, st, l, e, refused⟩ : ∃ t st l, (if c.startsBusy = true then s.serve p tag (requestRule c)
      else s.serveAlways p tag (requestRule c)) = State.answer t p tag st l ∧
      (st ≠ .okay → st ≠ .clmp → st ≠ .empt → t = s) := by
    split
    · rcases s.serve_cases p tag (requestRule c) with ⟨pending, _⟩ | ⟨_, _, e⟩ | ⟨_, e⟩
      · simp [idle] at pending
      · exact ⟨s, _, _, e, fun _ _ _ => rfl⟩
      · exact ⟨_, _, _, e, requestRule_refusal c s⟩
    · exact ⟨_, _, _, State.serveAlways_taken idle tag _, requestRule_refusal c s⟩
  rw [e]
  exact ⟨_, st, l, rfl, by simp, fun a b d => by rw [refused a b d]⟩

/-- Settles O7: a rule does no more than post on the port it does not serve. -/
theorem requestsLeaveTheOtherPort : Obligations.RequestsLeaveTheOtherPort := by
  intro c s t p tag name request h
  have posts : (s.port p.other).AfterPosts (t.port p.other) := by
    rcases exec_request_cases request h with ⟨_, rfl⟩ | ⟨_, _, _, rfl⟩ | ⟨_, _, rfl⟩
    · exact .refl
    · rw [State.answer_port_other]; exact .refl
    · rw [State.answer_port_other]; exact (requestRule_ruleOn s request).2
  exact posts.same

end Sys2Proof.Machine
end

section
/-!
PROOFS. Chapter 4: the clock's counts stay in range, the time stays SET (R48 to R53, R55, R59, R60), and what each request and
each tick does to the clock.
-/

namespace Sys2Proof.Machine

/-! ### What a tick leaves of the clock -/

section
variable {s t : State}

/-- A tick dates itself and moves the count or the preload, and nothing else of the clock (R48, R56). -/
theorem State.tick_clock (s : State) (date : Nat) :
    ((s.tick date).clock = { s.clock with lastTick := date }) ∨
    ((s.tick date).clock = { s.clock with lastTick := date, seconds := (s.clock.seconds + 1) % 4294967296 }) ∨
    ∃ v, s.clock.preload = some v ∧ (s.tick date).clock = { s.clock with lastTick := date, seconds := v, preload := none } := by
  unfold State.tick
  dsimp only
  split
  · exact .inl rfl
  · exact .inr (.inl rfl)
  next v _ preload => exact .inr (.inr ⟨v, preload, rfl⟩)

theorem State.tick_time (s : State) (date : Nat) : (s.tick date).clock.time = s.clock.time := by
  rcases s.tick_clock date with e | e | ⟨v, _, e⟩ <;> rw [e]

theorem State.tick_keeps (s : State) (date : Nat) :
    (s.tick date).clock.discipline = s.clock.discipline ∧ (s.tick date).clock.good = s.clock.good ∧
      (s.tick date).clock.miss = s.clock.miss ∧ (s.tick date).clock.bad = s.clock.bad := by
  rcases s.tick_clock date with e | e | ⟨v, _, e⟩ <;> rw [e] <;> exact ⟨rfl, rfl, rfl, rfl⟩

/-! ### The counts in range -/

theorem State.tick_countsInRange (h : s.clock.CountsInRange) (date : Nat) : (s.tick date).clock.CountsInRange := by
  obtain ⟨seconds, good, miss, bad, internal, pulse, preload⟩ := h
  rcases s.tick_clock date with e | e | ⟨v, pending, e⟩ <;> rw [e]
  · exact ⟨seconds, good, miss, bad, internal, pulse, preload⟩
  · exact ⟨by dsimp only; omega, good, miss, bad, internal, pulse, preload⟩
  · exact ⟨(preload v pending).1, good, miss, bad, internal, pulse, fun w hw => by cases hw⟩

/-- A return to INTERNAL clears the counts of PULSE discipline, whatever they were (R52, R53). -/
theorem Clock.countsInRange_internal {c : Clock} (seconds : c.seconds ≤ 4294967295) (good : c.good ≤ 2)
    (preload : ∀ v, c.preload = some v → v ≤ 4294967295 ∧ c.time = .set) :
    ({ c with discipline := .internal, miss := 0, bad := 0 } : Clock).CountsInRange :=
  ⟨seconds, good, Nat.zero_le _, Nat.zero_le _, fun _ => ⟨rfl, rfl⟩, fun h => (by cases h), preload⟩

theorem Clock.reset_countsInRange : Clock.reset.CountsInRange :=
  ⟨by decide, by decide, by decide, by decide, fun _ => ⟨rfl, rfl⟩, fun h => (by cases h), fun v hv => (by cases hv)⟩

theorem State.qualify_countsInRange (seconds : s.clock.seconds ≤ 4294967295) (miss : s.clock.miss ≤ 2)
    (bad : s.clock.bad ≤ 2) (preload : ∀ v, s.clock.preload = some v → v ≤ 4294967295 ∧ s.clock.time = .set) :
    s.qualify.clock.CountsInRange := by
  have qualified (date : Nat) :
      ({ s.clock with discipline := .pulse, good := 0, lastTick := date } : Clock).CountsInRange :=
    ⟨seconds, Nat.zero_le _, miss, bad, fun h => (by cases h), fun _ => rfl, preload⟩
  unfold State.qualify
  dsimp only
  split
  · exact State.tick_countsInRange (qualified s.clock.lastTick) _
  · exact qualified s.now

theorem State.pulseInternal_countsInRange (h : s.clock.CountsInRange) (internal : s.clock.discipline = .internal) :
    s.pulseInternal.clock.CountsInRange := by
  have inRange := h
  obtain ⟨seconds, good, miss, bad, counts, _, preload⟩ := h
  have pulse {P : Prop} (h : s.clock.discipline = .pulse) : P := by rw [internal] at h; cases h
  by_cases follows : s.FollowsPulse
  · by_cases third : s.clock.good + 1 = 3
    · rw [State.pulseInternal_of_third follows third]
      exact State.qualify_countsInRange (s := s.pulseTaken) seconds miss bad preload
    · rw [State.pulseInternal_of_follows follows third]
      exact ⟨seconds, by dsimp only; omega, miss, bad, counts, pulse, preload⟩
  · rw [State.pulseInternal_of_not_follows follows]
    exact ⟨seconds, Nat.zero_le _, miss, bad, counts, fun _ => rfl, preload⟩

theorem State.pulseDisciplined_countsInRange (h : s.clock.CountsInRange) (pulse : s.clock.discipline = .pulse) :
    s.pulseDisciplined.clock.CountsInRange := by
  obtain ⟨seconds, good, miss, bad, _, counts, preload⟩ := h
  have internal {P : Prop} (h : s.clock.discipline = .internal) : P := by rw [pulse] at h; cases h
  by_cases onTime : 9999500 ≤ s.now - s.clock.lastTick ∧ s.now - s.clock.lastTick ≤ 10000500
  · rw [State.pulseDisciplined_of_good onTime]
    exact State.tick_countsInRange
      (s := { s with clock := { s.clock with prevPulse := some s.now, miss := 0, bad := 0 } })
      ⟨seconds, good, Nat.zero_le _, Nat.zero_le _, fun _ => ⟨rfl, rfl⟩, counts, preload⟩ _
  · by_cases third : s.clock.bad + 1 = 3
    · rw [State.pulseDisciplined_of_third_bad onTime third]
      exact Clock.countsInRange_internal (c := { s.clock with prevPulse := some s.now }) seconds good preload
    · rw [State.pulseDisciplined_of_bad onTime third]
      exact ⟨seconds, good, miss, by dsimp only; omega, internal, counts, preload⟩

theorem State.secondPulse_countsInRange (h : s.clock.CountsInRange) : s.secondPulse.clock.CountsInRange := by
  unfold State.secondPulse
  split
  next internal => exact State.pulseInternal_countsInRange h internal
  next pulse => exact State.pulseDisciplined_countsInRange h pulse

theorem State.substituteTick_countsInRange (h : s.clock.CountsInRange) (pulse : s.clock.discipline = .pulse) :
    s.substituteTick.clock.CountsInRange := by
  have ticked := State.tick_countsInRange h (s.clock.lastTick + Config.periodsPerSecond)
  have still : (s.tick (s.clock.lastTick + Config.periodsPerSecond)).clock.discipline = .pulse :=
    (s.tick_keeps _).1.trans pulse
  obtain ⟨seconds, good, miss, bad, _, counts, preload⟩ := ticked
  unfold State.substituteTick
  dsimp only
  split
  · exact Clock.countsInRange_internal (c := { (s.tick _).clock with miss := _ }) seconds good preload
  next third => exact ⟨seconds, good, by dsimp only; omega, bad, fun h => (by rw [still] at h; cases h), counts, preload⟩

theorem ckstReply_countsInRange (l : List Byte) (h : s.clock.CountsInRange) :
    (ckstReply l s).state.clock.CountsInRange := by
  obtain ⟨seconds, good, miss, bad, internal, pulse, preload⟩ := h
  have value : u32At l 0 ≤ 4294967295 := Nat.le_of_lt_succ (u32At_lt l 0)
  unfold ckstReply State.sized
  dsimp only
  repeat' split
  · exact ⟨value, good, miss, bad, internal, pulse, fun v hv => ⟨(preload v hv).1, rfl⟩⟩
  next set _ => exact ⟨seconds, good, miss, bad, internal, pulse, fun v hv => by cases hv; exact ⟨value, set⟩⟩
  next set _ => exact ⟨seconds, good, miss, bad, internal, pulse, fun v hv => by cases hv; exact ⟨value, set⟩⟩
  · exact ⟨seconds, good, miss, bad, internal, pulse, preload⟩

/-! ### The time stays SET -/

theorem State.qualify_time (s : State) : s.qualify.clock.time = s.clock.time := by
  unfold State.qualify
  dsimp only
  split
  · rw [State.tick_time]; rfl
  · rfl

theorem State.pulseInternal_time (s : State) : s.pulseInternal.clock.time = s.clock.time := by
  by_cases follows : s.FollowsPulse
  · by_cases third : s.clock.good + 1 = 3
    · rw [State.pulseInternal_of_third follows third]; exact State.qualify_time _
    · rw [State.pulseInternal_of_follows follows third]
  · rw [State.pulseInternal_of_not_follows follows]

theorem State.pulseDisciplined_time (s : State) : s.pulseDisciplined.clock.time = s.clock.time := by
  unfold State.pulseDisciplined
  dsimp only
  split
  · exact State.tick_time _ _
  · split <;> rfl

theorem State.secondPulse_time (s : State) : s.secondPulse.clock.time = s.clock.time := by
  unfold State.secondPulse
  split
  · exact s.pulseInternal_time
  · exact s.pulseDisciplined_time

theorem State.substituteTick_time (s : State) : s.substituteTick.clock.time = s.clock.time := by
  unfold State.substituteTick
  dsimp only
  split
  · exact s.tick_time _
  · exact s.tick_time _

theorem ckstReply_time (l : List Byte) (h : s.clock.time = .set) : (ckstReply l s).state.clock.time = .set := by
  unfold ckstReply State.sized
  dsimp only
  repeat' split
  · rfl
  all_goals exact h

/-! ### Every command -/

/-- Everything a command that is no reset can do to the clock. -/
theorem exec_clock_cases {c : Instr} (h : exec c s = .next t) (running : ¬Resets c) :
    t.clock = s.clock ∨ (∃ l, t.clock = (ckstReply l s).state.clock) ∨ (∃ date, t.clock = (s.tick date).clock) ∨
      t.clock = s.secondPulse.clock ∨ (s.clock.discipline = .pulse ∧ t.clock = s.substituteTick.clock) := by
  by_cases moves : Block.clock ∈ footprint c
  case neg => exact .inl ((exec_agreesOff h).clock moves)
  cases c
  case powerReset m => exact absurd ⟨m, .inl rfl⟩ running
  case lineReset m => exact absurd ⟨m, .inr rfl⟩ running
  case ckst p tag l =>
    rcases exec_request_cases rfl h with ⟨_, rfl⟩ | ⟨_, _, _, rfl⟩ | ⟨_, _, rfl⟩
    · exact .inl rfl
    · exact .inl (by simp)
    · exact .inr (.inl ⟨l, by simp [requestRule]⟩)
  case internalTick =>
    cases h; split
    · exact .inr (.inr (.inl ⟨_, rfl⟩))
    · exact .inl rfl
  case secondPulseInternal | secondPulseDisciplined => cases h; exact .inr (.inr (.inr (.inl rfl)))
  case pulseWindowExpiry =>
    cases h; split
    next due => exact .inr (.inr (.inr (.inr ⟨due.1, rfl⟩)))
    next => exact .inl rfl
  all_goals simp [footprint] at moves

theorem exec_countsInRange {c : Instr} (h : exec c s = .next t) (hs : s.clock.CountsInRange) : t.clock.CountsInRange := by
  by_cases resets : Resets c
  · obtain ⟨m, rfl | rfl⟩ := resets <;> cases h <;>
      exact Clock.reset_countsInRange
  rcases exec_clock_cases h resets with e | ⟨l, e⟩ | ⟨date, e⟩ | e | ⟨pulse, e⟩ <;> rw [e]
  · exact hs
  · exact ckstReply_countsInRange l hs
  · exact State.tick_countsInRange hs date
  · exact State.secondPulse_countsInRange hs
  · exact State.substituteTick_countsInRange hs pulse

end

/-- Settles O20: every operation on the clock keeps its counts in range, and none but a reset makes the time UNSET. -/
theorem stepKeepsTheClockCounts : Obligations.StepKeepsTheClockCounts := by
  refine ⟨fun s t hs h => ?_, fun c s t set running h => ?_⟩
  · rcases step_cases h with ⟨_, e⟩ | ⟨c, rest, _, e⟩
    · obtain ⟨a, b, i, cs, e', _, _⟩ := s.byteTime_cases
      rw [e'] at e; cases e; exact hs
    · exact exec_countsInRange e.symm (s := { s with pending := rest }) hs
  · rcases exec_clock_cases h running with e | ⟨l, e⟩ | ⟨date, e⟩ | e | ⟨_, e⟩ <;> rw [e]
    · exact set
    · exact ckstReply_time l set
    · rw [State.tick_time, set]
    · rw [State.secondPulse_time, set]
    · rw [State.substituteTick_time, set]

end Sys2Proof.Machine
end

section
/-!
PROOFS. Chapters 6 and 10.6: everything a command can do to the model, to the stored image and to the start-up phase (R76,
R79 to R90, R170, R172).
-/

namespace Sys2Proof.Machine

variable {s t : State}

/-! ### The model -/

/-- An MDWR is refused and changes nothing, or writes one group in SETUP and makes its block begin afresh (R76). -/
theorem mdwrReply_cases (l : List Byte) (s : State) : (mdwrReply l s).state = s ∨
    ∃ id r g, s.model.mode = .setup ∧ s.model.groups.write id r = some g ∧
      (mdwrReply l s).state = (s.withGroups g).groupEffect id := by
  unfold mdwrReply
  dsimp only
  split
  · split
    · exact .inl rfl
    next mode =>
      have setup : s.model.mode = .setup := by cases h : s.model.mode <;> simp_all
      split
      · exact .inl rfl
      · split
        · split
          · exact .inl rfl
          next written => exact .inr ⟨_, _, _, setup, written, rfl⟩
        · exact .inl rfl
  · exact .inl rfl

theorem State.sized_state_cases (s : State) (l : List Byte) (n : Nat) (rule : Reply) :
    (s.sized l n rule).state = s ∨ (l.length = n ∧ s.sized l n rule = rule) := by
  unfold State.sized
  split
  next length => exact .inr ⟨length, rfl⟩
  next => exact .inl rfl

/-- SETU is refused and changes nothing, or makes the mode SETUP with no reading and no store about (R79). -/
theorem setuReply_cases (l : List Byte) (s : State) : (setuReply l s).state = s ∨
    (s.readingPending = false ∧ s.model.storeOutstanding = false ∧ (setuReply l s).state = s.enterSetup) := by
  unfold setuReply State.sized
  split
  · split
    · exact .inl rfl
    · split
      · exact .inl rfl
      next pending =>
        split
        · exact .inl rfl
        next store => exact .inr ⟨by simpa using pending, by simpa using store, rfl⟩
  · exact .inl rfl

/-- MDST is refused and changes nothing, or marks a store outstanding in SURVEY (R87). -/
theorem mdstReply_cases (l : List Byte) (s : State) : (mdstReply l s).state = s ∨
    (s.model.mode = .survey ∧
      (mdstReply l s).state = { s with model := { s.model with storeOutstanding := true } }) := by
  unfold mdstReply State.sized
  split
  · split
    · exact .inl rfl
    next mode =>
      split
      · exact .inl rfl
      · exact .inr ⟨by cases h : s.model.mode <;> simp_all, rfl⟩
  · exact .inl rfl

/-- SURV is refused and changes nothing, or enters SURVEY over a valid model (R81, R82). -/
theorem survReply_cases (l : List Byte) (s : State) : (survReply l s).state = s ∨
    (s.model.mode = .setup ∧ s.model.groups.validate = none ∧ (survReply l s).state = s.enterSurvey) := by
  unfold survReply State.sized
  repeat' split
  case h_2 mode _ _ valid =>
    exact .inr ⟨by cases h : s.model.mode <;> simp_all, valid, rfl⟩
  all_goals exact .inl rfl

theorem State.enterSurvey_model (s : State) : s.enterSurvey.model =
    { s.model with mode := .survey, generation := (s.model.generation + 1) % 65536 } := by
  simp [State.enterSurvey]

theorem State.readingPending_eq_false (h : s.readingPending = false) : s.engine.queue = [] ∧ s.engine.reading = none := by
  simpa [State.readingPending] using h

/-- Everything a command can do to the model. -/
inductive State.ModelMoves (s : State) (c : Instr) : CorrectionModel → Prop
  | kept : s.ModelMoves c s.model
  | reset : Resets c → s.ModelMoves c ⟨.defaults, .setup, 0, false⟩
  | loaded : c = .modelLoadEnd → s.startUp.phase = .load → s.ModelMoves c s.flash.loadModel
  | written {p : Port} {tag : Byte} {l : List Byte} {id : GroupId} {r : List Byte} {g : Groups} :
      c = .mdwr p tag l → s.startUp.phase = .ready → s.model.mode = .setup →
      s.model.groups.write id r = some g → s.ModelMoves c { s.model with groups := g }
  | setup : s.engine.queue = [] → s.engine.reading = none → s.model.storeOutstanding = false →
      s.ModelMoves c { s.model with mode := .setup }
  | survey : s.model.mode = .setup → s.model.groups.validate = none →
      s.ModelMoves c { s.model with mode := .survey, generation := (s.model.generation + 1) % 65536 }
  | storing : s.model.mode = .survey → s.ModelMoves c { s.model with storeOutstanding := true }
  | stored {verified : Bool} : c = .modelStoreCompletion verified → s.archive.activity = .store →
      s.ModelMoves c { s.model with storeOutstanding := false }

/-- A request that a port takes or not: its footprint's blocks are as its rule leaves them, or as they were. -/
theorem exec_request_block {α : Type} (f : State → α) {c : Instr} {p : Port} {tag : Byte} {name : List Byte}
    (request : c.request = some (p, tag, name)) (h : exec c s = .next t)
    (answered : ∀ (u : State) tag st l, f (u.answer p tag st l) = f u) :
    f t = f s ∨ ((c.startsBusy = true → s.startUp.phase = .ready) ∧ f t = f (requestRule c s).state) := by
  rcases exec_request_cases request h with ⟨_, rfl⟩ | ⟨_, _, _, rfl⟩ | ⟨_, ready, rfl⟩
  · exact .inl rfl
  · exact .inl (answered ..)
  · exact .inr ⟨ready, answered ..⟩

theorem exec_modelMoves {c : Instr} (h : exec c s = .next t) : s.ModelMoves c t.model := by
  by_cases moves : Block.model ∈ footprint c
  case neg => rw [(exec_agreesOff h).model moves]; exact .kept
  cases c
  case powerReset m => cases h; exact .reset ⟨m, .inl rfl⟩
  case lineReset m => cases h; exact .reset ⟨m, .inr rfl⟩
  case modelLoadEnd =>
    cases h; split
    next load => simpa using .loaded rfl load
    next => exact .kept
  case mdwr p tag l =>
    rcases exec_request_block State.model rfl h (by simp) with e | ⟨ready, e⟩ <;> rw [e]
    · exact .kept
    · rcases mdwrReply_cases l s with e | ⟨id, r, g, mode, written, e⟩ <;> rw [requestRule, e]
      · exact .kept
      · simpa [State.withGroups] using .written rfl (ready rfl) mode written
  case setu p tag l =>
    rcases exec_request_block State.model rfl h (by simp) with e | ⟨_, e⟩ <;> rw [e]
    · exact .kept
    · rcases setuReply_cases l s with e | ⟨pending, store, e⟩ <;> rw [requestRule, e]
      · exact .kept
      · obtain ⟨queue, reading⟩ := State.readingPending_eq_false pending
        simpa [State.enterSetup] using .setup queue reading store
  case surv p tag l =>
    rcases exec_request_block State.model rfl h (by simp) with e | ⟨_, e⟩ <;> rw [e]
    · exact .kept
    · rcases survReply_cases l s with e | ⟨mode, valid, e⟩ <;> rw [requestRule, e]
      · exact .kept
      · rw [State.enterSurvey_model]; exact .survey mode valid
  case mdst p tag l =>
    rcases exec_request_block State.model rfl h (by simp) with e | ⟨_, e⟩ <;> rw [e]
    · exact .kept
    · rcases mdstReply_cases l s with e | ⟨mode, e⟩ <;> rw [requestRule, e]
      · exact .kept
      · exact .storing mode
  case modelStoreCompletion v =>
    cases h; split
    next store => exact .stored rfl store
    next => exact .kept
  all_goals simp [footprint] at moves

/-! ### The stored image -/

/-- Everything a command can do to the stored image (R88, R89). -/
inductive State.ImageMoves (s : State) : Option ModelImage → Prop
  | kept : s.ImageMoves s.flash.image
  | invalidated : s.ImageMoves none
  | stored : s.archive.activity = .store → s.ImageMoves (some ⟨s.model.groups, s.model.generation⟩)

theorem State.cutFlash_imageMoves (s : State) (m : Bool) : s.ImageMoves (s.cutFlash m).image := by
  unfold State.cutFlash
  split
  · split
    · exact .kept
    next store => exact .stored store
    · exact .kept
  · exact .kept

theorem State.ImageMoves.of_eq {i : Option ModelImage} (e : i = s.flash.image) : s.ImageMoves i := e ▸ .kept

theorem exec_imageMoves {c : Instr} (h : exec c s = .next t) : s.ImageMoves t.flash.image := by
  by_cases moves : Block.flash ∈ footprint c
  case neg => rw [(exec_agreesOff h).flash moves]; exact .kept
  cases c
  case powerReset m | lineReset m => cases h; exact s.cutFlash_imageMoves m
  case startModelStore =>
    cases h; split
    · exact .invalidated
    · exact .kept
  case startPageProgram =>
    cases h
    refine .of_eq ?_
    repeat' split
    all_goals rfl
  case pageProgramSuccess =>
    cases h; repeat' split
    · simpa [State.programSucceeds] using .kept
    all_goals exact .kept
  case modelStoreCompletion v =>
    cases h; split
    next store =>
      cases v
      · exact .kept
      · exact .stored store
    next => exact .kept
  all_goals simp [footprint] at moves

/-! ### The start-up phase -/

/-- Everything a command can do to the start-up phase (R170, R172). -/
inductive State.PhaseMoves (s : State) (c : Instr) : Phase → Prop
  | kept : s.PhaseMoves c s.startUp.phase
  | reset : Resets c → s.PhaseMoves c .load
  | loaded : c = .modelLoadEnd → s.startUp.phase = .load → s.PhaseMoves c .mount
  | mounted : c = .mountEnd → s.startUp.phase = .mount → s.PhaseMoves c .ready
  | restarting : s.startUp.phase = .ready → s.PhaseMoves c .restart
  | restarted (p : Port) : Restarts c s p → s.PhaseMoves c .ready

theorem exec_phaseMoves {c : Instr} (h : exec c s = .next t) : s.PhaseMoves c t.startUp.phase := by
  by_cases moves : Block.startUp ∈ footprint c
  case neg => rw [(exec_agreesOff h).startUp moves]; exact .kept
  cases c
  case powerReset m => cases h; exact .reset ⟨m, .inl rfl⟩
  case lineReset m => cases h; exact .reset ⟨m, .inr rfl⟩
  case modelLoadEnd =>
    cases h; split
    next load => exact .loaded rfl load
    next => exact .kept
  case mountEnd =>
    cases h; split
    next mount => exact .mounted rfl mount
    next => exact .kept
  case rstr p tag l =>
    rcases exec_request_block State.startUp rfl h (by simp) with e | ⟨ready, e⟩ <;> rw [e]
    · exact .kept
    · rcases s.sized_state_cases l 0 _ with e | ⟨_, e⟩ <;> rw [requestRule, rstrReply, e]
      · exact .kept
      · exact .restarting (ready rfl)
  case responseSent p =>
    cases h; split
    next answering =>
      split
      next runs =>
        unfold State.restartingFor at runs
        split at runs
        next timer present =>
          refine .restarted p ⟨timer.due, ?_, .inl ⟨rfl, ?_⟩⟩
          · cases timer; cases p <;> simp_all
          · intro none; simp [State.answering, none] at answering
        next => cases runs
      next => cases p <;> exact .kept
    next => exact .kept
  case restartTimerExpiry =>
    cases h; split
    next timer present =>
      split
      next due => exact .restarted timer.port ⟨timer.due, present, .inr ⟨rfl, by simpa [State.reached] using due⟩⟩
      next => exact .kept
    next => exact .kept
  case modelStoreCompletion v => cases h; split <;> exact .kept
  all_goals simp [footprint] at moves

/-- RESPONSE_SENT changes nothing, ends the response, or ends it and takes the restart (R162, R172). -/
theorem execResponseSent_cases {p : Port} (h : exec (.responseSent p) s = .next t) : t = s ∨
    ∃ u, u = s.setPort p { s.port p with response := none, sent := 0 } ∧ (t = u ∨ t = u.restart p) := by
  cases h
  split
  · refine .inr ⟨_, rfl, ?_⟩
    dsimp only
    split
    · exact .inr rfl
    · exact .inl rfl
  · exact .inl rfl

/-- RESTART_TIMER_EXPIRY changes nothing, or takes the restart (R172). -/
theorem execRestartTimerExpiry_cases (h : exec .restartTimerExpiry s = .next t) : t = s ∨ ∃ p, t = s.restart p := by
  cases h
  split
  next timer _ =>
    split
    · exact .inr ⟨timer.port, rfl⟩
    · exact .inl rfl
  next => exact .inl rfl

end Sys2Proof.Machine
end

section
/-!
PROOFS. Chapters 6.1, 6.3 and 11.6: the records of the groups, read back as they were written; what a write stores, and the
ranges it keeps (R9, R20, R33, R61, R62, R73, R76, R77, R85, R86).
-/

namespace Sys2Proof.Machine

/-! ### A field behind other fields -/

@[simp] theorem u8At_append_right {x : List Byte} {i : Nat} (h : x.length ≤ i) (l : List Byte) :
    u8At (x ++ l) i = u8At l (i - x.length) := by
  simp [u8At, List.getElem?_append_right h]

@[simp] theorem u16At_append_right {x : List Byte} {i : Nat} (h : x.length ≤ i) (l : List Byte) :
    u16At (x ++ l) i = u16At l (i - x.length) := by
  rw [u16At, u8At_append_right h, u8At_append_right (by omega), u16At, Nat.sub_add_comm h]

@[simp] theorem u32At_append_right {x : List Byte} {i : Nat} (h : x.length ≤ i) (l : List Byte) :
    u32At (x ++ l) i = u32At l (i - x.length) := by
  rw [u32At, u16At_append_right h, u16At_append_right (by omega), u32At, Nat.sub_add_comm h]

@[simp] theorem s32At_append_right {x : List Byte} {i : Nat} (h : x.length ≤ i) (l : List Byte) :
    s32At (x ++ l) i = s32At l (i - x.length) := by
  rw [s32At, u32At_append_right h, s32At]

@[simp] theorem markAt_append_right {x : List Byte} {i : Nat} (h : x.length ≤ i) (l : List Byte) :
    markAt (x ++ l) i = markAt l (i - x.length) := by
  rw [markAt, u8At_append_right h, markAt]

/-! ### Fields in range are read back -/

theorem u8At_of_le {n : Nat} (h : n ≤ 255) (l : List Byte) : u8At (u8 n ++ l) 0 = n := by
  rw [u8At_u8]; omega

theorem u16At_of_le {n : Nat} (h : n ≤ 65535) (l : List Byte) : u16At (u16 n ++ l) 0 = n := by
  rw [u16At_u16]; omega

theorem u32At_of_le {n : Nat} (h : n ≤ 4294967295) (l : List Byte) : u32At (u32 n ++ l) 0 = n := by
  rw [u32At_u32]; omega

theorem s32At_of_signed {v : Int} (h : Signed32 v) (l : List Byte) : s32At (s32 v ++ l) 0 = v := s32At_s32 h l

@[simp] theorem markAt_mark (b : Bool) (l : List Byte) : markAt (mark b ++ l) 0 = some b := by cases b <;> rfl

theorem u8At_last_of_le {n : Nat} (h : n ≤ 255) : u8At (u8 n) 0 = n := by simpa using u8At_of_le h []

theorem u32At_last_of_le {n : Nat} (h : n ≤ 4294967295) : u32At (u32 n) 0 = n := by
  simpa using u32At_of_le h []

theorem s32At_last_of_signed {v : Int} (h : Signed32 v) : s32At (s32 v) 0 = v := by simpa using s32At_s32 h []

@[simp] theorem markAt_mark_last (b : Bool) : markAt (mark b) 0 = some b := by cases b <;> rfl

/-! ### Marks -/

theorem markAt_eq_none {l : List Byte} {i : Nat} : markAt l i = none ↔ 1 < u8At l i := by
  unfold markAt
  split
  next off => simp [off]
  next on => simp [on]
  next off on => exact ⟨fun _ => Nat.one_lt_iff_ne_zero_and_ne_one.mpr ⟨off, on⟩, fun _ => rfl⟩

theorem markAt_eq_some {l : List Byte} {i : Nat} {b : Bool} (h : markAt l i = some b) : b = decide (u8At l i = 1) := by
  unfold markAt at h
  split at h
  next off => cases h; simp [off]
  next on => cases h; simp [on]
  next => cases h

/-! ### Records read back -/

theorem CaliSlot.parse_bytes {c : CaliSlot} (h : c.InRange) : CaliSlot.parse c.bytes = some c := by
  obtain ⟨start, stop, base, factor⟩ := h
  simp [CaliSlot.parse, CaliSlot.bytes, u32At_of_le start, u32At_of_le stop, s32At_of_signed base,
    s32At_last_of_signed factor]

theorem TiltGroup.parse_bytes {g : TiltGroup} (h : g.InRange) : TiltGroup.parse g.bytes = g := by
  obtain ⟨zeroX, zeroY, sensX, sensY, threshold, hysteresis, _, debounce, motionLimit⟩ := h
  have threshold : Signed32 g.threshold := by omega
  have hysteresis : Signed32 g.hysteresis := by omega
  have motionLimit : Signed32 g.motionLimit := by omega
  simp [TiltGroup.parse, TiltGroup.bytes, s32At_of_signed zeroX, s32At_of_signed zeroY, s32At_of_signed sensX,
    s32At_of_signed sensY, s32At_of_signed threshold, s32At_of_signed hysteresis, u8At_of_le debounce,
    s32At_last_of_signed motionLimit]

theorem ThrmGroup.parse_bytes {g : ThrmGroup} (h : g.InRange) : ThrmGroup.parse g.bytes = some g := by
  obtain ⟨sens, offset, setPoint, window, kT, kG, nUp, nDown, bucketLimit, step, _, lowFrames⟩ := h
  have offset : Signed32 g.offset := by omega
  have setPoint : Signed32 g.setPoint := by omega
  have window : Signed32 g.window := by omega
  have bucketLimit : Signed32 g.bucketLimit := by omega
  have step : Signed32 g.step := by omega
  simp [ThrmGroup.parse, ThrmGroup.bytes, s32At_of_signed sens, s32At_of_signed offset,
    s32At_of_signed setPoint, s32At_of_signed window, s32At_of_signed kT, s32At_of_signed kG,
    u16At_of_le nUp, u16At_of_le nDown, s32At_of_signed bucketLimit, s32At_of_signed step,
    u8At_of_le lowFrames]

theorem TideSlot.parse_bytes {t : TideSlot} (h : t.InRange) : TideSlot.parse t.bytes = some t := by
  obtain ⟨species, speed, phase, amplitude⟩ := h
  have small : t.species ≤ 255 := by omega
  have speed : t.speed ≤ 4294967295 := by omega
  have amplitude : Signed32 t.amplitude := by omega
  simp [TideSlot.parse, TideSlot.bytes, species, u8At_of_le small, u32At_of_le speed, u32At_of_le phase,
    s32At_last_of_signed amplitude]

theorem TidrGroup.parse_bytes {g : TidrGroup} (h : g.InRange) : TidrGroup.parse g.bytes = g := by
  obtain ⟨longitude, epoch⟩ := h
  have longitude : Signed32 g.longitude := by omega
  simp [TidrGroup.parse, TidrGroup.bytes, s32At_of_signed longitude, u32At_last_of_le epoch]

theorem GateGroup.parse_bytes {g : GateGroup} (h : g.InRange) : GateGroup.parse g.bytes = g := by
  obtain ⟨rawLow, rawHigh, gateLimit, settle, levelWait, outlierLimit, g0⟩ := h
  have gateLimit : Signed32 g.gateLimit := by omega
  have settle : Signed32 g.settle := by omega
  have levelWait : Signed32 g.levelWait := by omega
  have outlierLimit : Signed32 g.outlierLimit := by omega
  have g0 : Signed32 g.g0 := by omega
  simp [GateGroup.parse, GateGroup.bytes, u32At_of_le rawLow, u32At_of_le rawHigh, s32At_of_signed gateLimit,
    s32At_of_signed settle, s32At_of_signed levelWait, s32At_of_signed outlierLimit, s32At_last_of_signed g0]

theorem ScanGroup.parse_bytes {g : ScanGroup} (h : g.InRange) : ScanGroup.parse g.bytes = some g := by
  obtain ⟨interval, averaging⟩ := g
  have four : averaging = 1 ∨ averaging = 2 ∨ averaging = 4 ∨ averaging = 8 := h
  have small : averaging ≤ 255 := by omega
  have listed : ¬averaging = 1 → ¬averaging = 2 → ¬averaging = 4 → averaging = 8 := by omega
  cases interval <;> simpa [ScanGroup.parse, ScanGroup.bytes, ScanInterval.code, u8At_last_of_le small] using listed

theorem Window.parse_bytes {w : Window} (h : w.InRange) : Window.parse w.bytes = some w := by
  obtain ⟨_, first, _, last⟩ := h
  have first : w.first ≤ 65535 := by omega
  have last : w.last ≤ 65535 := by omega
  simp [Window.parse, Window.bytes, u16At_of_le first, u16At_of_le last]

/-! ### Clamps -/

theorem clampInt_eq {lo hi v : Int} (h : lo ≤ hi) : clampInt lo hi v = max lo (min hi v) := by
  unfold clampInt; split
  · omega
  · split <;> omega

theorem clampNat_eq {lo hi v : Nat} (h : lo ≤ hi) : clampNat lo hi v = max lo (min hi v) := by
  unfold clampNat; split
  · omega
  · split <;> omega

theorem TiltGroup.clamped_of_inRange {g : TiltGroup} (h : g.InRange) : g.clamped = g := by
  obtain ⟨_, _, _, _, threshold, hysteresis, least, debounce, motionLimit⟩ := h
  simp only [TiltGroup.clamped, clampInt_of_within threshold.1 threshold.2, clampInt_of_within hysteresis.1 hysteresis.2,
    clampNat_of_within least debounce, clampInt_of_within motionLimit.1 motionLimit.2]

theorem ThrmGroup.clamped_of_inRange {g : ThrmGroup} (h : g.InRange) : g.clamped = g := by
  obtain ⟨_, offset, setPoint, window, _, _, _, _, bucketLimit, step, least, lowFrames⟩ := h
  simp only [ThrmGroup.clamped, clampInt_of_within offset.1 offset.2, clampInt_of_within setPoint.1 setPoint.2,
    clampInt_of_within window.1 window.2, clampInt_of_within bucketLimit.1 bucketLimit.2,
    clampInt_of_within step.1 step.2, clampNat_of_within least lowFrames]

theorem TideSlot.clamped_of_inRange {t : TideSlot} (h : t.InRange) : t.clamped = t := by
  obtain ⟨_, speed, _, amplitude⟩ := h
  simp only [TideSlot.clamped, clampNat_of_within (Nat.zero_le _) speed, clampInt_of_within amplitude.1 amplitude.2]

theorem TidrGroup.clamped_of_inRange {g : TidrGroup} (h : g.InRange) : g.clamped = g := by
  obtain ⟨longitude, _⟩ := h
  simp only [TidrGroup.clamped, clampInt_of_within longitude.1 longitude.2]

theorem GateGroup.clamped_of_inRange {g : GateGroup} (h : g.InRange) : g.clamped = g := by
  obtain ⟨_, _, gateLimit, settle, levelWait, outlierLimit, g0⟩ := h
  simp only [GateGroup.clamped, clampInt_of_within gateLimit.1 gateLimit.2, clampInt_of_within settle.1 settle.2,
    clampInt_of_within levelWait.1 levelWait.2, clampInt_of_within outlierLimit.1 outlierLimit.2,
    clampInt_of_within g0.1 g0.2]

theorem Window.clamped_of_inRange {w : Window} (h : w.InRange) : w.clamped = w := by
  obtain ⟨least, first, least', last⟩ := h
  simp only [Window.clamped, clampNat_of_within least first, clampNat_of_within least' last]

/-! ### What a write leaves in range -/

theorem CaliSlot.parse_inRange {l : List Byte} {c : CaliSlot} (h : CaliSlot.parse l = some c) : c.InRange := by
  obtain ⟨e, _, rfl⟩ := Option.map_eq_some_iff.mp h
  have start := u32At_lt l 1
  have stop := u32At_lt l 5
  exact ⟨by simp only; omega, by simp only; omega, s32At_range l 9, s32At_range l 13⟩

theorem TiltGroup.parse_clamped_inRange (l : List Byte) : (TiltGroup.parse l).clamped.InRange :=
  have debounce := clampNat_within (lo := 1) (hi := 255) (by omega) (u8At l 24)
  ⟨s32At_range l 0, s32At_range l 4, s32At_range l 8, s32At_range l 12, clampInt_within (by omega) _,
    clampInt_within (by omega) _, debounce.1, debounce.2, clampInt_within (by omega) _⟩

theorem ThrmGroup.parse_clamped_inRange {l : List Byte} {g : ThrmGroup} (h : ThrmGroup.parse l = some g) :
    g.clamped.InRange := by
  obtain ⟨f, _, rfl⟩ := Option.map_eq_some_iff.mp h
  have lowFrames := clampNat_within (lo := 1) (hi := 255) (by omega) (u8At l 36)
  exact ⟨s32At_range l 0, clampInt_within (by omega) _, clampInt_within (by omega) _, clampInt_within (by omega) _,
    s32At_range l 16, s32At_range l 20, Nat.le_of_lt_succ (u16At_lt l 24), Nat.le_of_lt_succ (u16At_lt l 26),
    clampInt_within (by omega) _, clampInt_within (by omega) _, lowFrames.1, lowFrames.2⟩

theorem TideSlot.parse_eq_some {l : List Byte} {t : TideSlot} (h : TideSlot.parse l = some t) :
    u8At l 1 ≤ 3 ∧ t = ⟨decide (u8At l 0 = 1), u8At l 1, u32At l 2, u32At l 6, s32At l 10⟩ := by
  unfold TideSlot.parse at h
  split at h
  next => cases h
  next e marked =>
    split at h
    next species => cases h; exact ⟨species, by rw [markAt_eq_some marked]⟩
    next => cases h

theorem TideSlot.parse_clamped_inRange {l : List Byte} {t : TideSlot} (h : TideSlot.parse l = some t) :
    t.clamped.InRange := by
  obtain ⟨species, rfl⟩ := TideSlot.parse_eq_some h
  exact ⟨species, (clampNat_within (lo := 0) (hi := 268435455) (by omega) _).2, Nat.le_of_lt_succ (u32At_lt l 6), clampInt_within (by omega) _⟩

theorem TidrGroup.parse_clamped_inRange (l : List Byte) : (TidrGroup.parse l).clamped.InRange :=
  ⟨clampInt_within (by omega) _, Nat.le_of_lt_succ (u32At_lt l 4)⟩

theorem GateGroup.parse_clamped_inRange (l : List Byte) : (GateGroup.parse l).clamped.InRange :=
  ⟨Nat.le_of_lt_succ (u32At_lt l 0), Nat.le_of_lt_succ (u32At_lt l 4), clampInt_within (by omega) _,
    clampInt_within (by omega) _, clampInt_within (by omega) _, clampInt_within (by omega) _, clampInt_within (by omega) _⟩

theorem ScanGroup.parse_eq_some {l : List Byte} {g : ScanGroup} (h : ScanGroup.parse l = some g) :
    g.averaging = u8At l 1 ∧ g.interval.code = u8At l 0 ∧ g.InRange := by
  unfold ScanGroup.parse at h
  dsimp only at h
  split at h
  next averaging =>
    split at h
    case h_5 => cases h
    all_goals
      next code => cases h; exact ⟨rfl, code.symm, averaging⟩
  next => cases h

theorem Window.parse_clamped_inRange {l : List Byte} {w : Window} (h : Window.parse l = some w) : w.clamped.InRange := by
  obtain ⟨e, _, rfl⟩ := Option.map_eq_some_iff.mp h
  have first := clampNat_within (lo := 1) (hi := 65534) (by omega) (u16At l 0)
  have last := clampNat_within (lo := 1) (hi := 65534) (by omega) (u16At l 2)
  exact ⟨first.1, first.2, last.1, last.2⟩

/-! ### The groups -/

theorem Groups.defaults_inRange : Groups.defaults.InRange where
  cali c hc := by
    have e : c = CaliSlot.defaults := by simpa [Groups.defaults] using hc
    subst e; decide
  tilt := by decide
  thrm := by decide
  tide t ht := by
    have e : t = TideSlot.defaults := by simpa [Groups.defaults] using ht
    subst e; decide
  tidr := by decide
  gate := by decide
  scan := by decide
  windA := by decide
  windB := by decide

theorem Groups.cali_get_inRange {g : Groups} (h : g.InRange) (i : Fin 24) : (g.cali.get i).InRange :=
  h.cali _ (by simp [Vector.get])

theorem Groups.tide_get_inRange {g : Groups} (h : g.InRange) (j : Fin 16) : (g.tide.get j).InRange :=
  h.tide _ (by simp [Vector.get])

theorem Groups.window_inRange {g : Groups} (h : g.InRange) : ∀ p, (g.window p).InRange
  | .a => h.windA
  | .b => h.windB

/-- A member of a vector with one place replaced is the new value or a member of the old vector. -/
theorem mem_vector_set {α : Type} {n : Nat} {v : Vector α n} {i : Nat} (hi : i < n) {x y : α}
    (h : y ∈ (v.set i x hi).toList) : y = x ∨ y ∈ v.toList := by
  obtain ⟨k, hk, e⟩ := List.getElem_of_mem h
  have hk' : k < n := by simpa using hk
  rw [Vector.getElem_toList, Vector.getElem_set] at e
  split at e
  · exact .inl e.symm
  · exact .inr (e ▸ by simp)

/-- A write that is not refused stores one record in range (R76). -/
theorem Groups.write_inRange {g w : Groups} {id : GroupId} {l : List Byte} (h : g.InRange) (e : g.write id l = some w) :
    w.InRange := by
  cases id
  case cali i =>
    obtain ⟨c, parsed, rfl⟩ := Option.map_eq_some_iff.mp e
    refine { h with cali := fun x hx => ?_ }
    rcases mem_vector_set (Fin.isLt _) hx with rfl | hx
    · exact CaliSlot.parse_inRange parsed
    · exact h.cali x hx
  case tilt => cases e; exact { h with tilt := TiltGroup.parse_clamped_inRange l }
  case thrm =>
    obtain ⟨t, parsed, rfl⟩ := Option.map_eq_some_iff.mp e
    exact { h with thrm := ThrmGroup.parse_clamped_inRange parsed }
  case tide j =>
    obtain ⟨t, parsed, rfl⟩ := Option.map_eq_some_iff.mp e
    refine { h with tide := fun x hx => ?_ }
    rcases mem_vector_set (Fin.isLt _) hx with rfl | hx
    · exact TideSlot.parse_clamped_inRange parsed
    · exact h.tide x hx
  case tidr => cases e; exact { h with tidr := TidrGroup.parse_clamped_inRange l }
  case gate => cases e; exact { h with gate := GateGroup.parse_clamped_inRange l }
  case scan =>
    obtain ⟨c, parsed, rfl⟩ := Option.map_eq_some_iff.mp e
    exact { h with scan := (ScanGroup.parse_eq_some parsed).2.2 }
  case wind p =>
    cases p <;> obtain ⟨x, parsed, rfl⟩ := Option.map_eq_some_iff.mp e
    · exact { h with windA := Window.parse_clamped_inRange parsed }
    · exact { h with windB := Window.parse_clamped_inRange parsed }
  case arcv =>
    obtain ⟨b, parsed, rfl⟩ := Option.map_eq_some_iff.mp e
    exact { h with }

/-- A write leaves the record of every other group (R76). -/
theorem Groups.write_record_ne {g w : Groups} {id j : GroupId} {l : List Byte} (e : g.write id l = some w) (ne : j ≠ id) :
    w.record j = g.record j := by
  cases id
  case cali i =>
    obtain ⟨c, _, rfl⟩ := Option.map_eq_some_iff.mp e
    cases j
    case cali k =>
      have ne : i.val ≠ k.val := fun h => ne (by rw [Fin.ext h])
      simp [Groups.record, Vector.get_eq_getElem, Vector.getElem_set_ne _ _ ne]
    all_goals rfl
  case tide i =>
    obtain ⟨t, _, rfl⟩ := Option.map_eq_some_iff.mp e
    cases j
    case tide k =>
      have ne : i.val ≠ k.val := fun h => ne (by rw [Fin.ext h])
      simp [Groups.record, Vector.get_eq_getElem, Vector.getElem_set_ne _ _ ne]
    all_goals rfl
  case wind p =>
    cases p <;> obtain ⟨x, _, rfl⟩ := Option.map_eq_some_iff.mp e <;> cases j
    case a.wind q | b.wind q => cases q <;> first | rfl | exact absurd rfl ne
    all_goals rfl
  case tilt | tidr | gate =>
    cases e
    cases j <;> first | rfl | exact absurd rfl ne
  case thrm | scan | arcv =>
    obtain ⟨x, _, rfl⟩ := Option.map_eq_some_iff.mp e
    cases j <;> first | rfl | exact absurd rfl ne

/-- A group's record in range is accepted, and stored as it is (R76, chapter 11.6). -/
theorem Groups.write_record (g : Groups) {h : Groups} (range : h.InRange) (id : GroupId) :
    ∃ w, g.write id (h.record id) = some w ∧ w.record id = h.record id := by
  cases id
  case cali i =>
    have parsed := CaliSlot.parse_bytes (h.cali_get_inRange range i)
    exact ⟨_, by rw [Groups.write, Groups.record, parsed]; rfl, by simp [Groups.record, Vector.get_eq_getElem]⟩
  case tide j =>
    have parsed := TideSlot.parse_bytes (h.tide_get_inRange range j)
    have kept := TideSlot.clamped_of_inRange (h.tide_get_inRange range j)
    exact ⟨_, by rw [Groups.write, Groups.record, parsed]; rfl, by simp [Groups.record, Vector.get_eq_getElem] at kept ⊢; rw [kept]⟩
  case tilt =>
    refine ⟨_, rfl, ?_⟩
    simp only [Groups.record, TiltGroup.parse_bytes range.tilt, TiltGroup.clamped_of_inRange range.tilt]
  case thrm =>
    refine ⟨_, by rw [Groups.write, Groups.record, ThrmGroup.parse_bytes range.thrm]; rfl, ?_⟩
    simp only [Groups.record, ThrmGroup.clamped_of_inRange range.thrm]
  case tidr =>
    refine ⟨_, rfl, ?_⟩
    simp only [Groups.record, TidrGroup.parse_bytes range.tidr, TidrGroup.clamped_of_inRange range.tidr]
  case gate =>
    refine ⟨_, rfl, ?_⟩
    simp only [Groups.record, GateGroup.parse_bytes range.gate, GateGroup.clamped_of_inRange range.gate]
  case scan => exact ⟨{ g with scan := h.scan }, by rw [Groups.write, Groups.record, ScanGroup.parse_bytes range.scan]; rfl, rfl⟩
  case wind p =>
    have parsed := Window.parse_bytes (h.window_inRange range p)
    have kept := Window.clamped_of_inRange (h.window_inRange range p)
    cases p <;> refine ⟨_, by rw [Groups.write, Groups.record, parsed]; rfl, ?_⟩ <;>
      simp only [Groups.record, Groups.window] at kept ⊢ <;> rw [kept]
  case arcv => exact ⟨{ g with wrap := h.wrap }, by simp [Groups.write, Groups.record], rfl⟩

@[simp] theorem Groups.record_length (g : Groups) (id : GroupId) : (g.record id).length = id.recordLength := by
  cases id <;> simp [Groups.record, GroupId.recordLength, CaliSlot.bytes, TiltGroup.bytes, ThrmGroup.bytes, TideSlot.bytes,
    TidrGroup.bytes, GateGroup.bytes, ScanGroup.bytes, Window.bytes]

/-- Settles O38. -/
theorem groupRecordsRoundTrip : Obligations.GroupRecordsRoundTrip := by
  refine ⟨fun g h id range => ⟨h.record_length id, ?_⟩, fun g w id l range e =>
    ⟨Groups.write_inRange range e, fun j ne => Groups.write_record_ne e ne⟩⟩
  obtain ⟨w, written, record⟩ := g.write_record range id
  exact ⟨w, written, record, fun j ne => Groups.write_record_ne written ne⟩

/-! ### What a record stores -/

theorem TideSlot.parse_eq_none {l : List Byte} : TideSlot.parse l = none ↔ 1 < u8At l 0 ∨ 3 < u8At l 1 := by
  unfold TideSlot.parse
  split
  next bad => simp [markAt_eq_none.mp bad]
  next e good =>
    have mark : ¬1 < u8At l 0 := fun bad => by simp [markAt_eq_none.mpr bad] at good
    split
    next species => simp [mark, species]
    next species => simp [not_le.mp species]

theorem ScanGroup.parse_eq_none {l : List Byte} :
    ScanGroup.parse l = none ↔ 3 < u8At l 0 ∨ u8At l 1 ∉ [1, 2, 4, 8] := by
  unfold ScanGroup.parse
  dsimp only
  split
  next averaging =>
    have inSet : u8At l 1 ∈ [1, 2, 4, 8] := by simpa using averaging
    split
    case h_5 zero one two three =>
      refine ⟨fun _ => .inl (not_le.mp fun small => ?_), fun _ => rfl⟩
      have four : u8At l 0 = 0 ∨ u8At l 0 = 1 ∨ u8At l 0 = 2 ∨ u8At l 0 = 3 := by omega
      rcases four with e | e | e | e
      exacts [zero e, one e, two e, three e]
    all_goals
      next code => simp only [reduceCtorEq, code, inSet, false_iff]; simp
  next averaging => simpa using .inr (by simpa using averaging)

/-- A record is refused exactly when an enumerated field lies outside its set (R76, R178). -/
theorem Groups.write_eq_none (g : Groups) (id : GroupId) (l : List Byte) : g.write id l = none ↔
    ((∃ i, id = .cali i) ∧ 1 < u8At l 0) ∨ (id = .thrm ∧ 1 < u8At l 37) ∨
    ((∃ j, id = .tide j) ∧ (1 < u8At l 0 ∨ 3 < u8At l 1)) ∨
    (id = .scan ∧ (3 < u8At l 0 ∨ u8At l 1 ∉ [1, 2, 4, 8])) ∨ ((∃ q, id = .wind q) ∧ 1 < u8At l 4) ∨
    (id = .arcv ∧ 1 < u8At l 0) := by
  cases id
  case wind p => cases p <;> simp [Groups.write, Window.parse, markAt_eq_none]
  case tide j => simp [Groups.write, TideSlot.parse_eq_none]
  case scan => simp only [Groups.write, Option.map_eq_none_iff, ScanGroup.parse_eq_none]; simp
  all_goals simp [Groups.write, CaliSlot.parse, ThrmGroup.parse, markAt_eq_none]

/-- Settles O37. -/
theorem recordsAreClamped : Obligations.RecordsAreClamped := by
  refine ⟨fun g w l => ⟨?_, ?_, ?_, ?_, ?_, ?_, ?_, ?_, ?_⟩, Groups.write_eq_none⟩
  case refine_1 =>
    intro i e
    obtain ⟨c, parsed, rfl⟩ := Option.map_eq_some_iff.mp e
    obtain ⟨b, marked, rfl⟩ := Option.map_eq_some_iff.mp parsed
    rw [markAt_eq_some marked]
  case refine_2 => intro e; cases e; simp [TiltGroup.clamped, TiltGroup.parse, clampInt_eq, clampNat_eq]
  case refine_3 =>
    intro e
    obtain ⟨t, parsed, rfl⟩ := Option.map_eq_some_iff.mp e
    obtain ⟨b, marked, rfl⟩ := Option.map_eq_some_iff.mp parsed
    simp [ThrmGroup.clamped, clampInt_eq, clampNat_eq, markAt_eq_some marked]
  case refine_4 =>
    intro j e
    obtain ⟨t, parsed, rfl⟩ := Option.map_eq_some_iff.mp e
    obtain ⟨_, rfl⟩ := TideSlot.parse_eq_some parsed
    simp [TideSlot.clamped, clampInt_eq, clampNat_eq]
  case refine_5 => intro e; cases e; simp [TidrGroup.clamped, TidrGroup.parse, clampInt_eq]
  case refine_6 => intro e; cases e; simp [GateGroup.clamped, GateGroup.parse, clampInt_eq]
  case refine_7 =>
    intro e
    obtain ⟨c, parsed, rfl⟩ := Option.map_eq_some_iff.mp e
    obtain ⟨averaging, interval, _⟩ := ScanGroup.parse_eq_some parsed
    exact ⟨c.interval, interval, by rw [← averaging]⟩
  case refine_8 =>
    rintro x rfl
    constructor
    all_goals
      intro e
      obtain ⟨v, parsed, rfl⟩ := Option.map_eq_some_iff.mp e
      obtain ⟨b, marked, rfl⟩ := Option.map_eq_some_iff.mp parsed
      simp [Window.clamped, clampNat_eq, markAt_eq_some marked]
  case refine_9 =>
    intro e
    obtain ⟨b, marked, rfl⟩ := Option.map_eq_some_iff.mp e
    rw [markAt_eq_some marked]

/-! ### Every step -/

/-- A claim that the defaults meet and every write keeps is kept by every command, where the stored image meets it too. -/
theorem exec_groups_keep {P : Groups → Prop} {c : Instr} (defaults : P .defaults)
    (write : ∀ g w id l, P g → Groups.write g id l = some w → P w) (h : exec c s = .next t) (now : P s.model.groups)
    (image : ∀ i, s.flash.image = some i → P i.groups) : P t.model.groups := by
  generalize e : t.model = m
  have moves := e ▸ exec_modelMoves h
  cases moves with
  | reset => exact defaults
  | loaded =>
    unfold Flash.loadModel
    split
    next i stored => exact image i stored
    next => exact defaults
  | written _ _ _ written => exact write _ _ _ _ now written
  | kept | setup | survey | storing | stored => exact now

/-- A claim about the groups in use and about the stored image's holds of the image after a command. -/
theorem exec_image_keep {P : Groups → Prop} {c : Instr} (h : exec c s = .next t) (now : P s.model.groups)
    (image : ∀ i, s.flash.image = some i → P i.groups) (i : ModelImage) (stored : t.flash.image = some i) : P i.groups := by
  generalize e : t.flash.image = o at stored
  have moves := e ▸ exec_imageMoves h
  cases moves with
  | kept => exact image i stored
  | invalidated => cases stored
  | stored => cases stored; exact now

theorem exec_modelInRange {c : Instr} (range : s.ModelInRange) (h : exec c s = .next t) : t.ModelInRange where
  model := exec_groups_keep Groups.defaults_inRange (fun _ _ _ _ range e => Groups.write_inRange range e) h range.model
    range.image
  image := exec_image_keep h range.model range.image

/-- In SURVEY only a reset and the load change a group (R76). -/
theorem exec_groups_survey {c : Instr} (mode : s.model.mode = .survey) (noReset : ¬Resets c) (noLoad : c ≠ .modelLoadEnd)
    (h : exec c s = .next t) : t.model.groups = s.model.groups := by
  generalize e : t.model = m
  have moves := e ▸ exec_modelMoves h
  cases moves with
  | reset resets => exact absurd resets noReset
  | loaded load => exact absurd load noLoad
  | written _ _ setup => rw [mode] at setup; cases setup
  | kept | setup | survey | storing | stored => rfl

/-- Settles O42. -/
theorem modelStaysInRange : Obligations.ModelStaysInRange := by
  refine ⟨fun s t range h => ?_, fun c s t mode noReset noLoad h => exec_groups_survey mode noReset noLoad h⟩
  rcases step_cases h with ⟨_, e⟩ | ⟨c, rest, _, e⟩
  · obtain ⟨a, b, i, cs, e', _, _⟩ := s.byteTime_cases
    rw [e'] at e
    cases e
    exact ⟨range.model, range.image⟩
  · exact exec_modelInRange (s := { s with pending := rest }) ⟨range.model, range.image⟩ e.symm

/-! ### MDWR -/

theorem GroupId.parse_name (id : GroupId) : GroupId.parse id.name id.index = some id := by
  cases id
  case wind p => cases p <;> rfl
  case cali i => simp [GroupId.parse, GroupId.name, GroupId.index]
  case tide j => simp [GroupId.parse, GroupId.name, GroupId.index, letters, byte]
  all_goals rfl

/-- A name and an index byte that stand for a group are that group's (R176). -/
theorem GroupId.parse_eq_some {name : List Byte} {index : Nat} {id : GroupId} (h : GroupId.parse name index = some id) :
    name = id.name ∧ index = id.index := by
  unfold GroupId.parse at h
  split at h
  next cali =>
    split at h
    · cases h; exact ⟨cali, rfl⟩
    · cases h
  · split at h
    next tide =>
      split at h
      · cases h; exact ⟨tide, rfl⟩
      · cases h
    · split at h
      next wind => split at h <;> cases h <;> exact ⟨wind, rfl⟩
      · split at h
        · cases h
        next zero =>
          have zero : index = 0 := not_not.mp zero
          repeat' split at h
          all_goals first | cases h; exact ⟨‹_›, zero⟩ | cases h

theorem GroupId.index_le (id : GroupId) : id.index ≤ 255 := by
  cases id
  case cali i => exact le_trans i.isLt.le (by decide)
  case tide j => exact le_trans j.isLt.le (by decide)
  case wind p => cases p <;> decide
  all_goals exact Nat.zero_le _

theorem GroupId.name_length (id : GroupId) : id.name.length = 4 := by cases id <;> rfl

/-- The parts of an MDWR payload for a group. -/
theorem mdwr_payload_parts (id : GroupId) (record : List Byte) :
    (id.name ++ u8 id.index ++ record).take 4 = id.name ∧ u8At (id.name ++ u8 id.index ++ record) 4 = id.index ∧
      (id.name ++ u8 id.index ++ record).drop 5 = record := by
  have name := id.name_length
  refine ⟨?_, ?_, ?_⟩
  · rw [List.append_assoc, List.take_left' name]
  · rw [List.append_assoc, u8At_append_right name.le, name]; exact u8At_of_le id.index_le record
  · exact List.drop_left' (by simp [name])

/-- A payload of five bytes or more begins with the four bytes of a name and an index byte. -/
theorem mdwr_payload_eq {l : List Byte} (h : 5 ≤ l.length) : l = l.take 4 ++ u8 (u8At l 4) ++ l.drop 5 := by
  have index : u8 (u8At l 4) = [l[4]] := by
    have e : u8At l 4 = (l[4]).toNat := by simp [u8At, List.getElem?_eq_getElem (show 4 < l.length by omega)]
    rw [e]; exact congrArg (· :: []) (BitVec.eq_of_toNat_eq (by simpa using (l[4]).isLt))
  rw [index]
  conv_lhs => rw [← List.take_append_drop 4 l, List.drop_eq_getElem_cons (show 4 < l.length by omega)]
  simp

section
variable {id : GroupId} {record l : List Byte}

theorem mdwr_length (payload : l = id.name ++ u8 id.index ++ record) (length : record.length = id.recordLength) :
    l.length = 5 + id.recordLength := by simp [payload, id.name_length, length]; omega

theorem mdwr_listed (payload : l = id.name ++ u8 id.index ++ record) (length : record.length = id.recordLength) :
    mdwrLengths.contains l.length = true := by
  rw [mdwr_length payload length]; cases id <;> rfl

/-- In SETUP, with the name, index and length of a group, a record the group does not take is refused (R76). -/
theorem mdwrReply_of_refused (setup : s.model.mode = .setup) (payload : l = id.name ++ u8 id.index ++ record)
    (length : record.length = id.recordLength) (refused : s.model.groups.write id record = none) :
    mdwrReply l s = s.refuse .args := by
  obtain ⟨name, index, rest⟩ := mdwr_payload_parts id record
  unfold mdwrReply
  rw [if_pos (mdwr_listed payload length), if_neg (by simp [setup]), payload, name, index, GroupId.parse_name, rest,
    ← payload]
  simp only [mdwr_length payload length, if_true, refused]

/-- In SETUP, with the name, index and length of a group, a record the group takes is stored (R76). -/
theorem mdwrReply_of_written {g : Groups} (setup : s.model.mode = .setup) (payload : l = id.name ++ u8 id.index ++ record)
    (length : record.length = id.recordLength) (written : s.model.groups.write id record = some g) :
    mdwrReply l s = ⟨if g.record id = record then .okay else .clmp, (s.withGroups g).groupBytes id,
      (s.withGroups g).groupEffect id⟩ := by
  obtain ⟨name, index, rest⟩ := mdwr_payload_parts id record
  unfold mdwrReply
  rw [if_pos (mdwr_listed payload length), if_neg (by simp [setup]), payload, name, index, GroupId.parse_name, rest,
    ← payload]
  simp only [mdwr_length payload length, if_true, written]

end

/-- MDWR in SETUP is refused with ARGS when its payload is that of no group. -/
theorem mdwrReply_of_no_group {l : List Byte} (setup : s.model.mode = .setup) (five : 5 ≤ l.length)
    (none : ∀ (id : GroupId) (record : List Byte), l = id.name ++ u8 id.index ++ record → record.length ≠ id.recordLength) :
    mdwrReply l s = s.refuse .args := by
  unfold mdwrReply
  split
  · rw [if_neg (by simp [setup])]
    split
    · rfl
    next id parsed =>
      obtain ⟨name, index⟩ := GroupId.parse_eq_some parsed
      have other := none id (l.drop 5) (by rw [← name, ← index]; exact mdwr_payload_eq five)
      rw [if_neg fun e => other (by simp [e])]
  · rfl

theorem mdwrReply_of_survey {l : List Byte} (listed : mdwrLengths.contains l.length = true)
    (survey : s.model.mode = .survey) : mdwrReply l s = s.refuse .mode := by
  rw [mdwrReply, if_pos listed, if_pos survey]

/-- Settles O36. -/
theorem groupWritesStoreOneRecord : Obligations.GroupWritesStoreOneRecord := by
  intro s p tag l takes lengths
  have listed : mdwrLengths.contains l.length = true := by simpa [mdwrLengths] using lengths
  have five : 5 ≤ l.length := by simp at lengths; omega
  have served : exec (.mdwr p tag l) s =
      .next ((mdwrReply l s).state.answer p tag (mdwrReply l s).status (mdwrReply l s).payload) :=
    congrArg Host.Outcome.next (State.serve_taken takes tag _)
  rw [served]
  refine ⟨fun survey => by rw [mdwrReply_of_survey listed survey]; rfl,
    fun setup => ⟨fun none => by rw [mdwrReply_of_no_group setup five none]; rfl, fun id record payload length => ⟨?_, ?_⟩⟩⟩
  · intro refused
    rw [mdwrReply_of_refused setup payload length refused]; rfl
  · rintro g t u written rfl tilt thrm scan other
    have effect : u = (s.withGroups g).groupEffect id := by
      cases id
      case tilt => exact tilt rfl
      case thrm => exact thrm rfl
      case scan => exact scan rfl
      all_goals exact other nofun nofun nofun
    rw [mdwrReply_of_written setup payload length written, effect]
    simp only [State.groupBytes, State.withGroups, setup, Mode.code]
    rfl

end Sys2Proof.Machine
end

section
/-!
PROOFS. Chapters 2.2 and 2.3: what LEVEL means, kept by every step (R18, R20, R22, R23, R25).
-/

namespace Sys2Proof.Machine

variable {s t : State}

/-! ### The bounds -/

theorem TiltGroup.entryBound_le_leaveBound {g : TiltGroup} (h : 0 ≤ g.hysteresis) : g.entryBound ≤ g.leaveBound := by
  rw [g.entryBound_eq_sq, g.leaveBound_eq_sq]
  split
  · exact pow_le_pow_left₀ (by omega) (by omega) 2
  · positivity

/-! ### The monitor's claim -/

/-- LEVEL as the monitor has it under a TILT group: the frame last taken is unsaturated and at or below the leave bound. -/
def LevelMonitor.Holds (l : LevelMonitor) (g : TiltGroup) : Prop :=
  l.state = .level → l.satX = false ∧ l.satY = false ∧ ∃ t, l.tilts = some t ∧ t.m ≤ g.leaveBound

theorem LevelMonitor.holds_of_unlevel {l : LevelMonitor} (h : l.state = .unlevel) (g : TiltGroup) : l.Holds g := by
  intro level; rw [h] at level; cases level

@[simp] theorem State.reinitLevel_state (s : State) : s.reinitLevel.level.state = .unlevel := by
  unfold State.reinitLevel
  dsimp only
  cases s.scan.latest <;> cases s.level.state <;> rfl

@[simp] theorem State.reinitLevel_frames (s : State) : s.reinitLevel.level.frames = s.level.frames := by
  unfold State.reinitLevel
  dsimp only
  cases s.scan.latest <;> cases s.level.state <;> rfl

@[simp] theorem State.enterSurvey_frames (s : State) : s.enterSurvey.level.frames = s.level.frames := by
  simp [State.enterSurvey, State.postMode]

@[simp] theorem State.startScan_level (s : State) : s.startScan.level = s.level := rfl

@[simp] theorem State.restart_level (s : State) (p : Port) : (s.restart p).level = .reset := rfl

@[simp] theorem State.restart_phase (s : State) (p : Port) : (s.restart p).startUp.phase = .ready := rfl

@[simp] theorem State.enterSurvey_level_state (s : State) : s.enterSurvey.level.state = .unlevel := by
  simp [State.enterSurvey, State.postMode]

/-- A frame judged leaves the monitor UNLEVEL, or LEVEL with the frame at or below the leave bound (R22, R23). -/
theorem State.levelFrame_holds (s : State) (f : Frame) (h : 0 ≤ s.model.groups.tilt.hysteresis) :
    (s.levelFrame f).level.Holds s.model.groups.tilt := by
  cases state : s.level.state
  case unlevel =>
    rw [State.levelFrame_of_unlevel state]
    unfold State.judgeUnlevel
    dsimp only
    split
    next enters =>
      obtain ⟨satX, satY, bound⟩ := (TiltGroup.enters_iff ..).1 enters
      split
      · exact fun _ => ⟨satX, satY, _, rfl, bound.trans (TiltGroup.entryBound_le_leaveBound h)⟩
      · exact LevelMonitor.holds_of_unlevel (by exact state) _
    · exact LevelMonitor.holds_of_unlevel (by exact state) _
  case level =>
    rw [State.levelFrame_of_level state]
    unfold State.judgeLevel
    dsimp only
    split
    · exact LevelMonitor.holds_of_unlevel rfl _
    next clear =>
      simp only [Bool.or_eq_true, not_or, Bool.not_eq_true] at clear
      split
      · exact LevelMonitor.holds_of_unlevel rfl _
      next bound => exact fun _ => ⟨clear.1, clear.2, _, rfl, not_lt.mp bound⟩

/-- A frame taken leaves the frames that wait and the scan (R22). -/
theorem execLevelMonitorFrame_cases (h : exec .levelMonitorFrame s = .next t) : (s.level.frames = [] ∧ t = s) ∨
    ∃ f fs, s.level.frames = f :: fs ∧ t = State.levelFrame { s with level := { s.level with frames := fs } } f := by
  cases frames : s.level.frames with
  | nil => rw [show exec .levelMonitorFrame s = execLevelMonitorFrame s from rfl, execLevelMonitorFrame, frames] at h
           cases h; exact .inl ⟨rfl, rfl⟩
  | cons f fs => rw [exec_levelMonitorFrame_cons frames] at h
                 cases h; exact .inr ⟨f, fs, rfl, rfl⟩

theorem execFrameArrival_cases (h : exec .frameArrival s = .next t) :
    t = s ∨ ∃ due, s.scan.arrivalDue = some due ∧ due ≤ s.now ∧ s.scan.complete = true ∧ t = s.arrive due := by
  cases h
  split
  next due arrival =>
    split
    next complete =>
      rw [Bool.and_eq_true] at complete
      exact .inr ⟨due, arrival, by simpa [State.reached] using complete.1, complete.2, rfl⟩
    · exact .inl rfl
  · exact .inl rfl

@[simp] theorem State.deliver_level (s : State) (f : Frame) :
    (s.deliver f).level = { s.level with frames := s.level.frames ++ [f] } := by
  unfold State.deliver
  dsimp only
  split <;> rfl

@[simp] theorem State.arrive_level (s : State) (due : Nat) :
    (s.arrive due).level = { s.level with frames := s.level.frames ++ [s.scan.form] } := by
  simp [State.arrive]

theorem State.arrive_latest (s : State) (due : Nat) : (s.arrive due).scan.latest = some s.scan.form := by
  simp [State.arrive]

theorem execAnalogConversion_arrivalDue {ch : Channel} {code : BitVec 24} (h : exec (.analogConversion ch code) s = .next t) :
    t.scan.arrivalDue = s.scan.arrivalDue := by
  cases h
  split
  · cases ch <;> rfl
  · rfl

/-! ### Everything a command can do to the monitor -/

/-- Everything a command can do to the Level Monitor, as far as its state and the scan's beginning depend on it. -/
inductive State.LevelMoves (s t : State) (c : Instr) : Prop
  | kept : t.level = s.level → t.scan.arrivalDue = s.scan.arrivalDue → t.model.groups.tilt = s.model.groups.tilt →
      s.LevelMoves t c
  | reset : Resets c → t.level = .reset → t.scan.arrivalDue = none → s.LevelMoves t c
  | loaded : s.startUp.phase = .load → t.startUp.phase = .mount → t.level = s.level → s.LevelMoves t c
  | rescanned : t.level = s.level → t.startUp.phase = .ready → t.model.groups.tilt = s.model.groups.tilt → s.LevelMoves t c
  | afresh : t.level.state = .unlevel → t.level.frames = s.level.frames ∨ t.level.frames = [] → t.startUp.phase = .ready →
      s.LevelMoves t c
  | delivered (l : List Frame) : t.level = { s.level with frames := l } → s.scan.arrivalDue ≠ none → t.scan.latest ≠ none →
      t.model.groups.tilt = s.model.groups.tilt → s.LevelMoves t c
  | judged {f : Frame} {fs : List Frame} : s.level.frames = f :: fs →
      t.level = (State.levelFrame { s with level := { s.level with frames := fs } } f).level →
      t.model.groups.tilt = s.model.groups.tilt → s.LevelMoves t c

/-- Only a reset, the load and MDWR change a group (R76, R90). -/
theorem exec_groups {c : Instr} (noReset : ¬Resets c) (noLoad : c ≠ .modelLoadEnd)
    (noWrite : ∀ p tag l, c ≠ .mdwr p tag l) (h : exec c s = .next t) : t.model.groups = s.model.groups := by
  generalize e : t.model = m
  have moves := e ▸ exec_modelMoves h
  cases moves with
  | reset resets => exact absurd resets noReset
  | loaded load => exact absurd load noLoad
  | written write => exact absurd write (noWrite _ _ _)
  | kept | setup | survey | storing | stored => rfl

theorem Groups.write_tilt {g w : Groups} {id : GroupId} {l : List Byte} (e : g.write id l = some w) (ne : id ≠ .tilt) :
    w.tilt = g.tilt := by
  cases id
  case tilt => exact absurd rfl ne
  case tidr | gate => cases e; rfl
  case wind p => cases p <;> obtain ⟨x, _, rfl⟩ := Option.map_eq_some_iff.mp e <;> rfl
  all_goals obtain ⟨x, _, rfl⟩ := Option.map_eq_some_iff.mp e; rfl

@[simp] theorem State.reinitThermal_level (s : State) : s.reinitThermal.level = s.level := by simp

/-- What a group write does to the monitor: TILT makes it begin afresh, and no other group touches it. -/
theorem State.groupEffect_level (s : State) (id : GroupId) :
    (id = .tilt ∧ (s.groupEffect id).level.state = .unlevel ∧ (s.groupEffect id).level.frames = s.level.frames) ∨
      (id ≠ .tilt ∧ (s.groupEffect id).level = s.level) := by
  cases id
  case tilt => exact .inl ⟨rfl, s.reinitLevel_state, s.reinitLevel_frames⟩
  case thrm => exact .inr ⟨nofun, s.reinitThermal_level⟩
  all_goals exact .inr ⟨nofun, rfl⟩

theorem exec_levelMoves_mdwr {p : Port} {tag : Byte} {l : List Byte} (h : exec (.mdwr p tag l) s = .next t) :
    s.LevelMoves t (.mdwr p tag l) := by
  rcases exec_request_cases rfl h with ⟨_, rfl⟩ | ⟨_, _, _, rfl⟩ | ⟨_, ready, rfl⟩
  · exact .kept rfl rfl rfl
  · exact .kept (by simp) (by simp) (by simp)
  · rcases mdwrReply_cases l s with e | ⟨id, r, g, mode, written, e⟩ <;> simp only [requestRule, e]
    · exact .kept (by simp) (by simp) (by simp)
    · rcases (s.withGroups g).groupEffect_level id with ⟨_, afresh, frames⟩ | ⟨other, level⟩
      · exact .afresh (by simpa using afresh) (.inl (by simpa using frames)) (by simpa using ready rfl)
      · exact .rescanned (by simpa using level) (by simpa using ready rfl) (by simpa using Groups.write_tilt written other)

theorem exec_levelMoves_surv {p : Port} {tag : Byte} {l : List Byte} (h : exec (.surv p tag l) s = .next t) :
    s.LevelMoves t (.surv p tag l) := by
  rcases exec_request_cases rfl h with ⟨_, rfl⟩ | ⟨_, _, _, rfl⟩ | ⟨_, ready, rfl⟩
  · exact .kept rfl rfl rfl
  · exact .kept (by simp) (by simp) (by simp)
  · rcases survReply_cases l s with e | ⟨mode, valid, e⟩ <;> simp only [requestRule, e]
    · exact .kept (by simp) (by simp) (by simp)
    · exact .afresh (by simp) (.inl (by simp)) (by simpa using ready rfl)

theorem exec_levelMoves {c : Instr} (h : exec c s = .next t) : s.LevelMoves t c := by
  have frame := exec_agreesOff h
  cases c
  case powerReset m => cases h; exact .reset ⟨m, .inl rfl⟩ rfl rfl
  case lineReset m => cases h; exact .reset ⟨m, .inr rfl⟩ rfl rfl
  case modelLoadEnd =>
    cases h; split
    next load => exact .loaded load rfl rfl
    next => exact .kept rfl rfl rfl
  case mdwr => exact exec_levelMoves_mdwr h
  case surv => exact exec_levelMoves_surv h
  case responseSent p =>
    rcases execResponseSent_cases h with rfl | ⟨u, rfl, rfl | rfl⟩
    · exact .kept rfl rfl rfl
    · exact .kept (by simp) (by simp) (by simp)
    · exact .afresh rfl (.inr rfl) rfl
  case restartTimerExpiry =>
    rcases execRestartTimerExpiry_cases h with rfl | ⟨p, rfl⟩
    · exact .kept rfl rfl rfl
    · exact .afresh rfl (.inr rfl) rfl
  case frameArrival =>
    rcases execFrameArrival_cases h with rfl | ⟨due, arrival, _, _, rfl⟩
    · exact .kept rfl rfl rfl
    · exact .delivered _ (s.arrive_level due) (by simp [arrival]) (by simp [s.arrive_latest due]) (by simp)
  case levelMonitorFrame =>
    rcases execLevelMonitorFrame_cases h with ⟨_, rfl⟩ | ⟨f, fs, frames, rfl⟩
    · exact .kept rfl rfl rfl
    · exact .judged frames rfl (by simp)
  case analogConversion ch code =>
    exact .kept (frame.level (by simp [footprint])) (execAnalogConversion_arrivalDue h)
      (congrArg (·.groups.tilt) (frame.model (by simp [footprint])))
  all_goals
    have groups := exec_groups (by simp [Resets]) (by simp) (by simp) h
    exact .kept (frame.level (by simp [footprint])) (congrArg _ (frame.scan (by simp [footprint]))) (congrArg _ groups)

/-! ### Every step -/

theorem Groups.write_hysteresis {g w : Groups} {id : GroupId} {l : List Byte} (h : 0 ≤ g.tilt.hysteresis)
    (e : g.write id l = some w) : 0 ≤ w.tilt.hysteresis := by
  by_cases tilt : id = .tilt
  · subst tilt; cases e; exact (clampInt_within (by omega) _).1
  · rwa [Groups.write_tilt e tilt]

theorem exec_levelMeansLevel {c : Instr} (inv : s.LevelMeansLevel) (h : exec c s = .next t) : t.LevelMeansLevel where
  hysteresis := exec_groups_keep (P := fun g => 0 ≤ g.tilt.hysteresis) (by decide)
    (fun _ _ _ _ now e => Groups.write_hysteresis now e) h inv.hysteresis inv.image
  image := exec_image_keep (P := fun g => 0 ≤ g.tilt.hysteresis) h inv.hysteresis inv.image
  level := by
    cases exec_levelMoves h with
    | kept level _ tilt | rescanned level _ tilt => rw [level, tilt]; exact inv.level
    | reset _ level => rw [level]; nofun
    | loaded load _ level => rw [level]; exact LevelMonitor.holds_of_unlevel (inv.loading load).1 _
    | afresh state _ _ => exact LevelMonitor.holds_of_unlevel state _
    | delivered l level _ _ tilt => rw [level, tilt]; exact inv.level
    | judged _ level tilt => rw [level, tilt]; exact State.levelFrame_holds _ _ inv.hysteresis
  loading := by
    intro load
    have before : ¬Resets c → s.startUp.phase = .load := by
      intro noReset
      generalize e : t.startUp.phase = p at load
      have moves := e ▸ exec_phaseMoves h
      cases moves with
      | kept => exact load
      | reset resets => exact absurd resets noReset
      | loaded | mounted | restarting | restarted => cases load
    by_cases noReset : Resets c
    · obtain ⟨m, rfl | rfl⟩ := noReset <;> cases h <;> exact ⟨rfl, rfl, rfl⟩
    · have kept := inv.loading (before noReset)
      cases exec_levelMoves h with
      | kept level due _ => rw [level, due]; exact kept
      | reset resets => exact absurd resets noReset
      | loaded _ mount => rw [load] at mount; cases mount
      | rescanned _ ready | afresh _ _ ready => rw [load] at ready; cases ready
      | delivered _ _ due _ => exact absurd kept.2.2 due
      | judged frames => rw [kept.2.1] at frames; cases frames

/-- Settles O29. -/
theorem stepKeepsLevelMeaning : Obligations.StepKeepsLevelMeaning := by
  intro s t inv h
  rcases step_cases h with ⟨_, e⟩ | ⟨c, rest, _, e⟩
  · obtain ⟨a, b, i, cs, e', _, _⟩ := s.byteTime_cases
    rw [e'] at e
    cases e
    exact ⟨inv.level, inv.loading, inv.hysteresis, inv.image⟩
  · exact exec_levelMeansLevel (s := { s with pending := rest }) ⟨inv.level, inv.loading, inv.hysteresis, inv.image⟩ e.symm

end Sys2Proof.Machine
end

section
/-!
PROOFS. Chapter 7: everything a command can do to the reading queue, the next ticket and the reading in flight (R92 to R114).
-/

namespace Sys2Proof.Machine

variable {s t u : State} {r r0 r1 : Reading}

/-! ### What a command leaves in the engine's books -/

/-- The queue, the next ticket, the reading in flight and the Occupation Table of a state. -/
structure State.Books (t : State) (queue : List QueueEntry) (next : Nat) (reading : Option Reading)
    (table : OccupationTable) : Prop where
  queue : t.engine.queue = queue
  next : t.engine.nextTicket = next
  reading : t.engine.reading = reading
  table : t.occupations = table

/-- Nothing but the state, the flags and the first-gate mark of a reading differs. -/
def Reading.Marks (r r' : Reading) : Prop :=
  ∃ state flags armed, r' = { r with state := state, flags := flags, firstGateArmed := armed }

theorem Reading.Marks.refl (r : Reading) : r.Marks r := ⟨_, _, _, rfl⟩

theorem Reading.Marks.trans {a b c : Reading} (h : a.Marks b) (k : b.Marks c) : a.Marks c := by
  obtain ⟨_, _, _, rfl⟩ := h
  obtain ⟨_, _, _, rfl⟩ := k
  exact ⟨_, _, _, rfl⟩

/-- A gate's attempt counted: the gate is dropped, or its sample accepted (R103 to R105). -/
inductive Reading.Attempts (g : Groups) (r : Reading) : Reading → Prop
  | dropped {d : Drops} : d.total = r.drops.total + 1 → r.Attempts g { r.attempted with drops := d }
  | sampled {raw : Nat} {gcal : Int} {off : Bool} (h : HeldGate) (temp b : Int) (st : Station) :
      lookup g.cali.toList raw = some (gcal, off) →
      r.Attempts g (r.attempted.acceptGate h temp (computeSample g st h temp b gcal off))

/-- The engine may arm a gate: the level is LEVEL, or a notice says so (R95, R96). -/
def State.MayArm (s : State) : Prop := s.level.state = .level ∨ .level ∈ s.engine.levelNotices

/-- Everything a command can do to the engine's books. -/
inductive State.EngineMoves (s t : State) : Prop
  | kept : t.Books s.engine.queue s.engine.nextTicket s.engine.reading s.occupations → s.EngineMoves t
  | marked {r r' : Reading} : s.engine.reading = some r → r.Marks r' → (r'.keeps = true → r.keeps = true ∨ s.MayArm) →
      t.Books s.engine.queue s.engine.nextTicket (some r') s.occupations → s.EngineMoves t
  | attempted {r r0 r1 r2 : Reading} : s.engine.reading = some r → r.keeps = true → r.Marks r0 →
      r0.Attempts s.model.groups r1 → r1.Marks r2 → (r1.accepted = r0.accepted ∨ r1.accepted ≠ r1.n) →
      r1.attempts ≠ r1.n + r1.r →
      t.Books s.engine.queue s.engine.nextTicket (some r2) s.occupations → s.EngineMoves t
  | ended {r : Reading} : s.engine.reading = some r →
      t.Books s.engine.queue s.engine.nextTicket none s.occupations → s.EngineMoves t
  | finished {r r0 r1 : Reading} : s.engine.reading = some r → r.Marks r0 →
      (r1 = r0 ∨ r0.Attempts s.model.groups r1) → r1.m ≤ r1.accepted →
      t.Books s.engine.queue s.engine.nextTicket none
        { s.occupations with entries := appendResult r1.result s.occupations.entries } → s.EngineMoves t
  | accepted {o : Occupation} {occ n m r k : Nat} (p : Port) : s.model.mode ≠ .setup → s.startUp.phase = .ready →
      s.occupation occ = some o → o.state = .isOpen → s.engine.queue.length ≠ 4 →
      o.results.length + s.engine.pendingAt occ ≠ 8 → Clamped n m r k →
      t.Books (s.engine.accept p occ n m r k).queue (s.engine.accept p occ n m r k).nextTicket s.engine.reading
        s.occupations → s.EngineMoves t
  | taken {q : QueueEntry} {qs : List QueueEntry} {o : Occupation} {r : Reading} (due : Nat) : s.engine.reading = none →
      s.engine.queue = q :: qs → s.occupation q.occupation = some o →
      (q.reading o.station s.model.generation due).Marks r → (r.keeps = true → s.MayArm) →
      t.Books qs s.engine.nextTicket (some r) s.occupations → s.EngineMoves t
  | cancelled (q : QueueEntry) :
      t.Books (s.engine.queue.filter fun x => decide (x.ticket ≠ q.ticket)) s.engine.nextTicket s.engine.reading
        s.occupations → s.EngineMoves t
  | restarted : t.Books [] s.engine.nextTicket none s.occupations → s.EngineMoves t
  | reset : t.stations = [] → t.archive = .reset → t.Books [] 1 none ⟨[], 1, []⟩ → s.EngineMoves t

/-! ### The operations on a reading -/

/-- Two states agree in what the engine's operations read of the books and of the level. -/
structure State.SameBooks (s u : State) : Prop where
  queue : u.engine.queue = s.engine.queue
  next : u.engine.nextTicket = s.engine.nextTicket
  table : u.occupations = s.occupations
  level : u.level.state = s.level.state

theorem State.SameBooks.rebase {r : Option Reading} (same : s.SameBooks u)
    (h : t.Books u.engine.queue u.engine.nextTicket r u.occupations) :
    t.Books s.engine.queue s.engine.nextTicket r s.occupations :=
  ⟨h.queue.trans same.queue, h.next.trans same.next, h.reading, h.table.trans same.table⟩

theorem Reading.sawReport_marks (r : Reading) (c : ThermalReport) : r.Marks (r.sawReport c) :=
  ⟨r.state, _, r.firstGateArmed, rfl⟩

theorem State.waitLevel_books (r : Reading) : ∃ r', r.Marks r' ∧ r'.keeps = false ∧
    (u.waitLevel r).Books u.engine.queue u.engine.nextTicket (some r') u.occupations :=
  ⟨_, ⟨_, _, _, rfl⟩, rfl, ⟨rfl, rfl, rfl, rfl⟩⟩

theorem State.armReading_books (r : Reading) : ∃ r', r.Marks r' ∧
    (u.armReading r).Books u.engine.queue u.engine.nextTicket (some r') u.occupations :=
  ⟨_, ⟨_, _, _, rfl⟩, ⟨by simp [State.armReading], by simp [State.armReading], rfl, by simp [State.armReading]⟩⟩

/-- A reading that finishes has its result appended, or ends with none (R106). -/
theorem State.finish_books (r : Reading) :
    (r.m ≤ r.accepted ∧ (u.finish r).Books u.engine.queue u.engine.nextTicket none
      { u.occupations with entries := appendResult r.result u.occupations.entries }) ∨
    (u.finish r).Books u.engine.queue u.engine.nextTicket none u.occupations := by
  unfold State.finish
  split
  next enough => exact .inl ⟨enough, rfl, rfl, rfl, rfl⟩
  next => exact .inr ⟨rfl, rfl, rfl, rfl⟩

theorem State.settled_books (r : Reading) : ∃ r', r.Marks r' ∧ (r'.keeps = true → u.level.state = .level) ∧
    (u.settled r).Books u.engine.queue u.engine.nextTicket (some r') u.occupations := by
  unfold State.settled
  split
  next level =>
    obtain ⟨r', marks, books⟩ := u.armReading_books r
    exact ⟨r', marks, fun _ => level, books⟩
  next =>
    obtain ⟨r', marks, waits, books⟩ := u.waitLevel_books r
    exact ⟨r', marks, fun keeps => (by rw [waits] at keeps; cases keeps), books⟩

section
variable (same : s.SameBooks u) (reading : s.engine.reading = some r)
include same reading

theorem State.SameBooks.finish (marks : r.Marks r0) (attempt : r1 = r0 ∨ r0.Attempts s.model.groups r1) :
    s.EngineMoves (u.finish r1) := by
  obtain ⟨queue, next, table, _⟩ := same
  rcases u.finish_books r1 with ⟨enough, books⟩ | books <;> rw [queue, next, table] at books
  · exact .finished reading marks attempt enough books
  · exact .ended reading books

/-- The decision after a gate finishes the reading, waits for the level, or arms the next gate (R105). -/
theorem State.SameBooks.afterGate (keeps : r.keeps = true) (marks : r.Marks r0) (attempt : r0.Attempts s.model.groups r1) :
    s.EngineMoves (u.afterGate r1) := by
  unfold State.afterGate
  split
  · exact same.finish reading marks (.inr attempt)
  next more =>
    split
    · exact same.finish reading marks (.inr attempt)
    next left =>
      split
      · obtain ⟨r', marks', _, books⟩ := u.waitLevel_books r1
        exact .attempted reading keeps marks attempt marks' (.inr more) left (same.rebase books)
      · obtain ⟨r', marks', books⟩ := u.armReading_books r1
        exact .attempted reading keeps marks attempt marks' (.inr more) left (same.rebase books)

/-- A gate evaluated counts an attempt, and the decision follows (R103 to R105). -/
theorem State.SameBooks.evaluate {h : HeldGate} {c : ThermalReport} (groups : u.model.groups = s.model.groups)
    (keeps : r.keeps = true) (marks : r.Marks r0) (e : u.evaluate r0 h c = .next t) : s.EngineMoves t := by
  have done : s.SameBooks u.gateOver := ⟨same.queue, same.next, same.table, same.level⟩
  rcases u.evaluate_cases r0 h c with ⟨d, total, e'⟩ | ⟨gcal, off, st, b, slot, _, _, e'⟩ | ⟨⟨f, e'⟩, _⟩ <;> rw [e'] at e <;>
    cases e
  · exact done.afterGate reading keeps marks (.dropped total)
  · rw [groups] at slot ⊢
    exact done.afterGate reading keeps marks (.sampled h c.temp b st slot)

end

/-! ### The engine's events -/

theorem execTakeHead_moves (h : exec .takeHead s = .next t) : s.EngineMoves t := by
  change execTakeHead s = _ at h
  unfold execTakeHead at h
  split at h
  next q qs idle queue =>
    split at h
    · cases h
    next o present =>
      dsimp only at h
      split at h
      · cases h
        obtain ⟨r, marks, level, books⟩ := State.settled_books (u := { s with engine := { s.engine with
          queue := qs, reading := some (q.reading o.station s.model.generation (s.inSeconds s.model.groups.gate.settle)) } }) _
        exact .taken _ idle queue present marks (fun keeps => .inl (level keeps)) books
      · cases h
        exact .taken _ idle queue present (.refl _) nofun ⟨rfl, rfl, rfl, rfl⟩
  · cases h; exact .kept ⟨rfl, rfl, rfl, rfl⟩

theorem execSettleExpiry_moves (h : exec .settleExpiry s = .next t) : s.EngineMoves t := by
  cases h
  split
  next r reading =>
    split
    · split
      · obtain ⟨r', marks, level, books⟩ := s.settled_books r
        exact .marked reading marks (fun keeps => .inr (.inl (level keeps))) books
      · exact .kept ⟨rfl, rfl, rfl, rfl⟩
    · exact .kept ⟨rfl, rfl, rfl, rfl⟩
  · exact .kept ⟨rfl, rfl, rfl, rfl⟩

theorem execLevelWaitExpiry_moves (h : exec .levelWaitExpiry s = .next t) : s.EngineMoves t := by
  cases h
  split
  next r reading =>
    split
    · split
      · exact .ended reading ⟨rfl, rfl, rfl, rfl⟩
      · exact .kept ⟨rfl, rfl, rfl, rfl⟩
    · exact .kept ⟨rfl, rfl, rfl, rfl⟩
  · exact .kept ⟨rfl, rfl, rfl, rfl⟩

/-- A reading that loses the level with its gate outstanding finishes or waits (R98). -/
theorem State.SameBooks.loseLevel (same : s.SameBooks u) (reading : s.engine.reading = some r)
    (reading' : u.engine.reading = some r) (keeps : r.keeps = true) : s.EngineMoves (u.loseLevel r) := by
  unfold State.loseLevel
  split
  · obtain ⟨queue, next, table, _⟩ := same
    exact .kept ⟨queue, next, reading'.trans reading.symm, table⟩
  · have same' : s.SameBooks { u with gate := u.gate.abandon, engine := { u.engine with acc := .none, kept := [] } } :=
      ⟨same.queue, same.next, same.table, same.level⟩
    dsimp only
    split
    next =>
      have attempt : r.Attempts s.model.groups
          { r with attempts := r.attempts + 1, drops := { r.drops with offLevel := r.drops.offLevel + 1 } } :=
        .dropped (d := { r.drops with offLevel := r.drops.offLevel + 1 }) (by simp only [Drops.total]; omega)
      split
      · exact same'.finish reading (.refl r) (.inr attempt)
      next left =>
        obtain ⟨r', marks', _, books⟩ := State.waitLevel_books (u := { u with
          gate := u.gate.abandon, engine := { u.engine with acc := .none, kept := [] } })
          { r with attempts := r.attempts + 1, drops := { r.drops with offLevel := r.drops.offLevel + 1 } }
        exact .attempted reading keeps (.refl r) attempt marks' (.inl rfl) left (same'.rebase books)
    next =>
      split
      · exact same'.finish reading (.refl r) (.inl rfl)
      · obtain ⟨r', marks', waits, books⟩ := State.waitLevel_books (u := { u with
          gate := u.gate.abandon, engine := { u.engine with acc := .none, kept := [] } }) r
        exact .marked reading marks' (fun keeps => (by rw [waits] at keeps; cases keeps)) (same'.rebase books)

theorem execLevelNotice_moves (h : exec .levelNotice s = .next t) : s.EngineMoves t := by
  cases h
  split
  · exact .kept ⟨rfl, rfl, rfl, rfl⟩
  next l ls notices =>
    unfold State.noticed
    split
    · exact .kept ⟨rfl, rfl, rfl, rfl⟩
    next r reading =>
      split
      · obtain ⟨r', marks, books⟩ := State.armReading_books (u := { s with engine := { s.engine with levelNotices := ls } }) r
        exact .marked reading marks (fun _ => .inr (.inr (by simp [notices]))) books
      next state =>
        exact State.SameBooks.loseLevel ⟨rfl, rfl, rfl, rfl⟩ reading reading (by simp [Reading.keeps, state])
      · exact .kept ⟨rfl, rfl, rfl, rfl⟩

theorem execTimeoutReport_moves (h : exec .timeoutReport s = .next t) : s.EngineMoves t := by
  change execTimeoutReport s = _ at h
  rcases execTimeoutReport_cases s with e | ⟨l, e⟩ | ⟨l, g, r, reading, state, e⟩ <;> rw [e] at h <;> cases h
  · exact .kept ⟨rfl, rfl, rfl, rfl⟩
  · exact .kept ⟨rfl, rfl, rfl, rfl⟩
  · have same : s.SameBooks (s.withReports l).gateOver := ⟨rfl, rfl, rfl, rfl⟩
    exact same.afterGate reading (by simp [Reading.keeps, state]) (.refl r)
      (.dropped (d := { r.drops with noSignal := r.drops.noSignal + 1 }) (by simp only [Drops.total]; omega))

theorem execCompletionReport_moves (h : exec .completionReport s = .next t) : s.EngineMoves t := by
  change execCompletionReport s = _ at h
  rcases execCompletionReport_cases s with e | ⟨l, e⟩ | ⟨l, c, r, reading, state, e⟩ <;> rw [e] at h
  · cases h; exact .kept ⟨rfl, rfl, rfl, rfl⟩
  · cases h; exact .kept ⟨rfl, rfl, rfl, rfl⟩
  · have same : s.SameBooks (s.withReports l) := ⟨rfl, rfl, rfl, rfl⟩
    have keeps : r.keeps = true := by simp [Reading.keeps, state]
    rcases (s.withReports l).takeCompletion_cases r c with ⟨_, _, e⟩ | ⟨held, e⟩ | ⟨held, report, _, e⟩ <;> rw [e] at h
    · cases h
    · cases h; exact .marked reading ⟨_, _, _, rfl⟩ (fun _ => .inl keeps) ⟨rfl, rfl, rfl, rfl⟩
    · exact same.evaluate reading rfl keeps (.refl r) h

theorem execThermalReport_moves (h : exec .thermalReport s = .next t) : s.EngineMoves t := by
  change execThermalReport s = _ at h
  rcases execThermalReport_cases s with ⟨_, e⟩ | ⟨c, l, _, ⟨idle, e⟩ | ⟨r, reading, e | ⟨held, awaits, e⟩⟩⟩ <;> rw [e] at h
  · cases h; exact .kept ⟨rfl, rfl, rfl, rfl⟩
  · cases h; exact .kept ⟨rfl, rfl, rfl, rfl⟩
  · cases h; exact .marked reading (r.sawReport_marks c) (fun keeps => .inl keeps) ⟨rfl, rfl, rfl, rfl⟩
  · have same : s.SameBooks (s.withThermalReport r c l) := ⟨rfl, rfl, rfl, rfl⟩
    exact same.evaluate reading rfl (by simp [Reading.keeps, awaits]) (r.sawReport_marks c) h

theorem execStepNotice_moves (h : exec .stepNotice s = .next t) : s.EngineMoves t := by
  cases h
  split
  · exact .kept ⟨rfl, rfl, rfl, rfl⟩
  · dsimp only
    split
    next r reading =>
      split
      · exact .marked reading ⟨r.state, { r.flags with timeStepped := true }, r.firstGateArmed, rfl⟩
          (fun keeps => .inl keeps) ⟨rfl, rfl, rfl, rfl⟩
      · exact .kept ⟨rfl, rfl, rfl, rfl⟩
    · exact .kept ⟨rfl, rfl, rfl, rfl⟩

/-! ### The requests -/

theorem State.occupation_eq_some {n : Nat} {o : Occupation} (h : s.occupation n = some o) :
    o ∈ s.occupations.entries ∧ o.number = n :=
  ⟨List.mem_of_find?_eq_some h, by simpa using List.find?_some h⟩

/-- RDRQ is refused and changes nothing, or its entry joins the queue (R92, R93). -/
theorem rdrqReply_cases (p : Port) (l : List Byte) (s : State) : (rdrqReply p l s).state = s ∨
    ∃ o occ n m r k, s.model.mode ≠ .setup ∧ s.occupation occ = some o ∧ o.state = .isOpen ∧ s.engine.queue.length ≠ 4 ∧
      o.results.length + s.engine.pendingAt occ ≠ 8 ∧ Clamped n m r k ∧
      (rdrqReply p l s).state = { s with engine := s.engine.accept p occ n m r k } := by
  generalize e : rdrqReply p l s = reply
  unfold rdrqReply State.sized at e
  dsimp only at e
  split at e
  · split at e
    · subst e; exact .inl rfl
    next mode =>
    split at e
    · subst e; exact .inl rfl
    split at e
    · subst e; exact .inl rfl
    next o present =>
    split at e
    · subst e; exact .inl rfl
    next isOpen =>
    split at e
    · subst e; exact .inl rfl
    split at e
    · subst e; exact .inl rfl
    next room =>
    split at e
    · subst e; exact .inl rfl
    next places =>
    have n := clampNat_within (lo := 1) (hi := 32) (by omega) (u8At l 4)
    have m := clampNat_within n.1 (u8At l 5)
    have r := clampNat_within (lo := 0) (hi := 32) (by omega) (u8At l 6)
    have k := clampNat_within (lo := 10) (hi := 16) (by omega) (u8At l 7)
    subst e
    exact .inr ⟨o, _, _, _, _, _, mode, present, not_not.mp isOpen, room, places, ⟨m.1, m.2, n.2, r.2, k.1, k.2⟩, rfl⟩
  · subst e; exact .inl rfl

/-- RDCN is refused and changes nothing, or cancels a queued reading or the one in flight (R112 to R114). -/
theorem rdcnReply_cases (p : Port) (l : List Byte) (s : State) : (rdcnReply p l s).state = s ∨
    (∃ q, s.engine.queue.find? (fun q => decide (q.ticket = u16At l 0)) = some q ∧
      (rdcnReply p l s).state = s.cancelQueued q) ∨
    ∃ r, s.engine.reading = some r ∧ (rdcnReply p l s).state = s.cancelInFlight r := by
  unfold rdcnReply State.sized
  dsimp only
  split
  · split
    next q found =>
      split
      · exact .inr (.inl ⟨q, found, rfl⟩)
      · exact .inl rfl
    · split
      · exact .inl rfl
      next r reading =>
        split
        · exact .inl rfl
        · split
          · exact .inr (.inr ⟨r, reading, rfl⟩)
          · exact .inl rfl
  · exact .inl rfl

/-- An answer is no change of the books. -/
theorem State.Books.answer {q : List QueueEntry} {n : Nat} {r : Option Reading} {o : OccupationTable}
    (h : t.Books q n r o) (p : Port) (tag : Byte) (st : Status) (l : List Byte) : (t.answer p tag st l).Books q n r o :=
  ⟨by simpa using h.queue, by simpa using h.next, by simpa using h.reading, by simpa using h.table⟩

theorem execRdrq_moves {p : Port} {tag : Byte} {l : List Byte} (h : exec (.rdrq p tag l) s = .next t) :
    s.EngineMoves t := by
  rcases exec_request_cases rfl h with ⟨_, rfl⟩ | ⟨_, _, _, rfl⟩ | ⟨_, ready, rfl⟩
  · exact .kept ⟨rfl, rfl, rfl, rfl⟩
  · exact .kept (.answer ⟨rfl, rfl, rfl, rfl⟩ ..)
  · rcases rdrqReply_cases p l s with e | ⟨o, occ, n, m, r, k, mode, present, isOpen, room, places, clamped, e⟩ <;>
      simp only [requestRule, e]
    · exact .kept (.answer ⟨rfl, rfl, rfl, rfl⟩ ..)
    · exact .accepted p mode (ready rfl) present isOpen room places clamped (.answer ⟨rfl, rfl, rfl, rfl⟩ ..)

theorem execRdcn_moves {p : Port} {tag : Byte} {l : List Byte} (h : exec (.rdcn p tag l) s = .next t) :
    s.EngineMoves t := by
  rcases exec_request_cases rfl h with ⟨_, rfl⟩ | ⟨_, _, _, rfl⟩ | ⟨_, ready, rfl⟩
  · exact .kept ⟨rfl, rfl, rfl, rfl⟩
  · exact .kept (.answer ⟨rfl, rfl, rfl, rfl⟩ ..)
  · rcases rdcnReply_cases p l s with e | ⟨q, _, e⟩ | ⟨r, reading, e⟩ <;> simp only [requestRule, e]
    · exact .kept (.answer ⟨rfl, rfl, rfl, rfl⟩ ..)
    · exact .cancelled q (.answer ⟨rfl, rfl, rfl, rfl⟩ ..)
    · refine .ended reading (.answer ?_ ..)
      unfold State.cancelInFlight
      dsimp only
      split <;> exact ⟨rfl, rfl, rfl, rfl⟩

/-! ### Blocks that hand something to the engine -/

/-- An engine that was handed something and took nothing, where the level then is `told`: its books, its kept reports
and the latest one stand, a new thermal report is usable, and a new LEVEL notice tells the level. -/
structure Engine.Handed (e : Engine) (told : LevelState) (e' : Engine) : Prop where
  queue : e'.queue = e.queue
  next : e'.nextTicket = e.nextTicket
  reading : e'.reading = e.reading
  kept : e'.kept = e.kept
  latestReport : e'.latestReport = e.latestReport
  thermalReports : ∀ r ∈ e'.thermalReports, r ∈ e.thermalReports ∨ r.Usable
  levelNotices : .level ∈ e'.levelNotices → .level ∈ e.levelNotices ∨ told = .level

section
variable {told : LevelState}

theorem Engine.Handed.refl (e : Engine) : e.Handed told e := ⟨rfl, rfl, rfl, rfl, rfl, fun _ => .inl, .inl⟩

theorem Engine.Handed.of_eq {e e' : Engine} (h : e' = e) : e.Handed told e' := h ▸ .refl e

theorem Engine.Handed.trans {a b c : Engine} (h : a.Handed told b) (k : b.Handed told c) : a.Handed told c :=
  ⟨k.queue.trans h.queue, k.next.trans h.next, k.reading.trans h.reading, k.kept.trans h.kept,
    k.latestReport.trans h.latestReport, fun r mem => (k.thermalReports r mem).elim (h.thermalReports r) .inr,
    fun mem => (k.levelNotices mem).elim h.levelNotices .inr⟩

theorem State.handReport_handed (s : State) (r : GateReport) : s.engine.Handed told (s.handReport r).engine := by
  unfold State.handReport
  split <;> exact ⟨rfl, rfl, rfl, rfl, rfl, fun _ => .inl, .inl⟩

theorem State.completeGate_handed (s : State) : s.engine.Handed told s.completeGate.engine := s.handReport_handed _

theorem State.timeoutGate_handed (s : State) : s.engine.Handed told s.timeoutGate.engine := s.handReport_handed _

theorem State.freqEdge_handed (s : State) : s.engine.Handed told s.freqEdge.engine := by
  unfold State.freqEdge
  split
  · exact .refl _
  · exact .refl _
  · split
    · exact s.completeGate_handed
    · exact .refl _

theorem State.freqEdges_handed (s : State) (n : Nat) : s.engine.Handed told (s.freqEdges n).engine := by
  unfold State.freqEdges
  dsimp only
  split
  · exact .refl _
  · exact .refl _
  · split
    · exact .refl _
    · refine .trans ?_ (State.freqEdge_handed _)
      exact .refl _
  · split
    · exact .refl _
    · refine .trans ?_ (State.freqEdge_handed _)
      exact .refl _

theorem State.deliver_handed (s : State) (f : Frame) : s.engine.Handed told (s.deliver f).engine := by
  unfold State.deliver
  dsimp only
  split <;> exact ⟨rfl, rfl, rfl, rfl, rfl, fun _ => .inl, .inl⟩

/-- A change of the level is reported by a notice that tells the level (R24). -/
theorem Engine.Handed.notice {l : LevelState} (e : Engine) (h : l = .level → told = .level) :
    e.Handed told { e with levelNotices := e.levelNotices ++ [l] } :=
  ⟨rfl, rfl, rfl, rfl, rfl, fun _ => .inl, fun mem => (List.mem_append.mp mem).imp id fun new => h (List.mem_singleton.mp new).symm⟩

theorem State.judgeUnlevel_handed (s : State) (f : Frame) :
    s.engine.Handed (s.judgeUnlevel f).level.state (s.judgeUnlevel f).engine := by
  unfold State.judgeUnlevel
  dsimp only
  split
  · split
    · exact .notice s.engine id
    · exact .refl s.engine
  · exact .refl s.engine

theorem State.judgeLevel_handed (s : State) (f : Frame) :
    s.engine.Handed (s.judgeLevel f).level.state (s.judgeLevel f).engine := by
  unfold State.judgeLevel
  dsimp only
  split
  · exact .notice s.engine id
  · split
    · exact .notice s.engine id
    · exact .refl s.engine

theorem State.levelFrame_handed (s : State) (f : Frame) :
    s.engine.Handed (s.levelFrame f).level.state (s.levelFrame f).engine := by
  cases state : s.level.state
  · rw [State.levelFrame_of_unlevel state]
    exact .trans (.refl s.engine) (State.judgeUnlevel_handed (s.levelTaken f s.level.frames) f)
  · rw [State.levelFrame_of_level state]
    exact .trans (.refl s.engine) (State.judgeLevel_handed (s.levelTaken f s.level.frames) f)

theorem State.reinitLevel_handed (s : State) : s.engine.Handed told s.reinitLevel.engine := by
  unfold State.reinitLevel
  dsimp only
  split
  · cases s.scan.latest <;> exact .notice (l := .unlevel) s.engine nofun
  · exact .refl s.engine

theorem State.tick_handed (s : State) (date : Nat) : s.engine.Handed told (s.tick date).engine := by
  unfold State.tick
  dsimp only
  split
  · exact ⟨rfl, rfl, rfl, rfl, rfl, fun _ => .inl, .inl⟩
  · exact ⟨rfl, rfl, rfl, rfl, rfl, fun _ => .inl, .inl⟩
  · exact ⟨rfl, rfl, rfl, rfl, rfl, fun _ => .inl, .inl⟩

/-- A frame tracked unsaturated leaves a baseline (R35). -/
theorem ThermalTracker.track_baseline (t : ThermalTracker) (g : ThrmGroup) (temp : Int) :
    (t.track g temp false).1.baseline.isSome = true := by
  unfold ThermalTracker.track
  rw [if_neg (by simp)]
  split
  · rfl
  next b baseline =>
    dsimp only
    repeat' split
    all_goals simp [baseline]

theorem State.thermalFrame_handed (s : State) (f : Frame) : s.engine.Handed told (s.thermalFrame f).engine := by
  have handed (e : Engine) (r : ThermalReport) (usable : r.Usable) :
      e.Handed told { e with thermalReports := e.thermalReports ++ [r] } := by
    refine ⟨rfl, rfl, rfl, rfl, rfl, fun x mem => ?_, .inl⟩
    rcases List.mem_append.mp mem with old | new
    · exact .inl old
    · rw [List.mem_singleton.mp new]; exact .inr usable
  unfold State.thermalFrame
  dsimp only
  split
  all_goals
    refine handed _ _ fun trusted => ?_
    simp only [ThermalReport.untrusted, Bool.or_eq_false_iff] at trusted
    rw [trusted.1]
    exact ThermalTracker.track_baseline _ _ _

theorem State.qualify_handed (s : State) : s.engine.Handed told s.qualify.engine := by
  unfold State.qualify
  dsimp only
  split
  · refine .trans ?_ (State.tick_handed _ _)
    exact .refl _
  · exact .refl _

theorem State.pulseInternal_handed (s : State) : s.engine.Handed told s.pulseInternal.engine := by
  unfold State.pulseInternal
  dsimp only
  split
  · split
    · split
      · refine .trans ?_ (State.qualify_handed _)
        exact .refl _
      · exact .refl _
    · exact .refl _
  · exact .refl _

theorem State.pulseDisciplined_handed (s : State) : s.engine.Handed told s.pulseDisciplined.engine := by
  unfold State.pulseDisciplined
  dsimp only
  split
  · refine .trans ?_ (State.tick_handed _ _)
    exact .refl _
  · split <;> exact .refl _

theorem State.secondPulse_handed (s : State) : s.engine.Handed told s.secondPulse.engine := by
  unfold State.secondPulse
  split
  · exact s.pulseInternal_handed
  · exact s.pulseDisciplined_handed

theorem State.substituteTick_handed (s : State) : s.engine.Handed told s.substituteTick.engine := by
  have ticked := s.tick_handed (told := told) (s.clock.lastTick + Config.periodsPerSecond)
  unfold State.substituteTick
  dsimp only
  split <;> exact ticked

theorem State.groupEffect_handed (s : State) (id : GroupId) : s.engine.Handed told (s.groupEffect id).engine := by
  cases id
  case tilt => exact s.reinitLevel_handed
  case thrm => exact .of_eq (by simp [State.groupEffect])
  all_goals exact .refl _

theorem State.enterSurvey_handed (s : State) : s.engine.Handed told s.enterSurvey.engine := by
  have level := State.reinitLevel_handed (told := told)
    { s with model := { s.model with generation := (s.model.generation + 1) % 65536 } }
  exact .trans level (.of_eq (by simp [State.enterSurvey, State.postMode]))

/-- A request whose rule hands the engine something at most does no more when it is served. -/
theorem exec_request_handed {c : Instr} {p : Port} {tag : Byte} {name : List Byte} (request : c.request = some (p, tag, name))
    (h : exec c s = .next t) (rule : s.engine.Handed told (requestRule c s).state.engine) : s.engine.Handed told t.engine := by
  rcases exec_request_block State.engine request h (by simp) with e | ⟨_, e⟩ <;> rw [e]
  · exact .refl _
  · exact rule

theorem execMdwr_handed {p : Port} {tag : Byte} {l : List Byte} (h : exec (.mdwr p tag l) s = .next t) :
    s.engine.Handed told t.engine := by
  refine exec_request_handed rfl h ?_
  rcases mdwrReply_cases l s with e | ⟨id, r, g, _, _, e⟩ <;> rw [requestRule, e]
  · exact .refl _
  · exact (s.withGroups g).groupEffect_handed id

theorem execSurv_handed {p : Port} {tag : Byte} {l : List Byte} (h : exec (.surv p tag l) s = .next t) :
    s.engine.Handed told t.engine := by
  refine exec_request_handed rfl h ?_
  rcases survReply_cases l s with e | ⟨_, _, e⟩ <;> rw [requestRule, e]
  · exact .refl _
  · exact s.enterSurvey_handed

end

/-- The commands that take something from the engine, give a reading or end one. -/
def takesPart : Instr → Bool
  | .powerReset _ | .lineReset _ | .responseSent _ | .restartTimerExpiry | .takeHead | .settleExpiry | .levelWaitExpiry
  | .levelNotice | .completionReport | .timeoutReport | .thermalReport | .stepNotice | .rdrq .. | .rdcn .. => true
  | _ => false

/-- Every other command hands the engine something at most. -/
theorem exec_handed {c : Instr} (h : exec c s = .next t) (rest : takesPart c = false) : s.engine.Handed t.level.state t.engine := by
  by_cases moves : Block.engine ∈ footprint c
  case neg => exact .of_eq ((exec_agreesOff h).engine moves)
  cases c <;> simp only [footprint, takesPart, Bool.true_eq_false] at rest moves
  case mdwr => exact execMdwr_handed h
  case surv => exact execSurv_handed h
  case startEdge | completionEdge => cases h; exact s.freqEdge_handed
  case sensorEdge n => cases h; exact s.freqEdges_handed n
  case gateTimeout =>
    cases h; split
    · exact .refl _
    · split
      · exact s.timeoutGate_handed
      · exact .refl _
    · exact .refl _
  case frameArrival =>
    rcases execFrameArrival_cases h with rfl | ⟨due, _, _, _, rfl⟩
    · exact .refl _
    · refine .trans ?_ (State.deliver_handed _ _)
      exact .refl _
  case levelMonitorFrame =>
    rcases execLevelMonitorFrame_cases h with ⟨_, rfl⟩ | ⟨f, fs, _, rfl⟩
    · exact .refl _
    · refine .trans ?_ (State.levelFrame_handed _ f)
      exact .refl _
  case thermalTrackerFrame =>
    cases h; split
    · exact .refl _
    · refine .trans ?_ (State.thermalFrame_handed _ _)
      exact .refl _
  case gateAccumulatorFrame =>
    cases h; split
    · exact .refl _
    · dsimp only
      split <;> exact ⟨rfl, rfl, rfl, rfl, rfl, fun _ => .inl, .inl⟩
  case internalTick =>
    cases h; split
    · exact s.tick_handed _
    · exact .refl _
  case secondPulseInternal | secondPulseDisciplined => cases h; exact s.secondPulse_handed
  case pulseWindowExpiry =>
    cases h; split
    · exact s.substituteTick_handed
    · exact .refl _
  all_goals simp at moves

/-! ### Every command -/

theorem State.restart_books (s : State) (p : Port) : (s.restart p).Books [] s.engine.nextTicket none s.occupations :=
  ⟨rfl, rfl, rfl, rfl⟩

/-- Every command that can take part in a reading, or leaves the Occupation Table, moves the engine's books in one of the
ways listed. -/
theorem exec_engineMoves {c : Instr} (h : exec c s = .next t)
    (engine : takesPart c = true ∨ Block.occupations ∉ footprint c) : s.EngineMoves t := by
  by_cases rest : takesPart c = false
  · obtain ⟨queue, next, reading, _⟩ := exec_handed h rest
    have table := (exec_agreesOff h).occupations (engine.resolve_left (by simp [rest]))
    exact .kept ⟨queue, next, reading, table⟩
  cases c <;> simp only [takesPart, not_true, not_false_eq_true, Bool.true_eq_false] at rest
  case powerReset m => cases h; exact .reset rfl rfl ⟨rfl, rfl, rfl, rfl⟩
  case lineReset m => cases h; exact .reset rfl rfl ⟨rfl, rfl, rfl, rfl⟩
  case responseSent p =>
    rcases execResponseSent_cases h with rfl | ⟨u, rfl, rfl | rfl⟩
    · exact .kept ⟨rfl, rfl, rfl, rfl⟩
    · exact .kept (by cases p <;> exact ⟨rfl, rfl, rfl, rfl⟩)
    · exact .restarted (by cases p <;> exact ⟨rfl, rfl, rfl, rfl⟩)
  case restartTimerExpiry =>
    rcases execRestartTimerExpiry_cases h with rfl | ⟨p, rfl⟩
    · exact .kept ⟨rfl, rfl, rfl, rfl⟩
    · exact .restarted (s.restart_books p)
  case takeHead => exact execTakeHead_moves h
  case settleExpiry => exact execSettleExpiry_moves h
  case levelWaitExpiry => exact execLevelWaitExpiry_moves h
  case levelNotice => exact execLevelNotice_moves h
  case completionReport => exact execCompletionReport_moves h
  case timeoutReport => exact execTimeoutReport_moves h
  case thermalReport => exact execThermalReport_moves h
  case stepNotice => exact execStepNotice_moves h
  case rdrq => exact execRdrq_moves h
  case rdcn => exact execRdcn_moves h

end Sys2Proof.Machine
end

section
/-!
PROOFS. Chapters 8 and 9: everything a command can do to the Station Table, the Occupation Table and the staging buffers.
-/

namespace Sys2Proof.Machine

variable {s t : State}

/-- Everything a command that takes no part in a reading can do to the tables and to the staging buffers. -/
inductive State.TableMoves (s t : State) : Prop
  | kept : t.stations = s.stations → t.occupations = s.occupations → t.archive.staged = s.archive.staged → s.TableMoves t
  | redefined {n : Nat} {old : Station} (longitude : Int) (factor : Option Nat) : s.station n = some old →
      t.stations = updateStation n (fun _ => { old with longitude := longitude, factor := factor }) s.stations →
      t.occupations = s.occupations → t.archive.staged = s.archive.staged → s.TableMoves t
  | defined {n : Nat} (longitude : Int) (factor : Option Nat) : s.station n = none → s.stations.length ≠ 120 →
      t.stations = s.stations ++ [⟨n, longitude, factor, 0, none⟩] → t.occupations = s.occupations →
      t.archive.staged = s.archive.staged → s.TableMoves t
  | removed {n : Nat} : s.naming n = 0 → t.stations = (s.stations.filter fun t => decide (t.number ≠ n)) →
      t.occupations = s.occupations → t.archive.staged = s.archive.staged → s.TableMoves t
  | opened {n : Nat} {e : Station} (count : Nat) : s.startUp.phase = .ready → s.station n = some e → e.openOccupation = none →
      s.occupations.entries.length ≠ 12 →
      t.stations = updateStation n (fun x => { x with count := count, openOccupation := some s.occupations.counter })
        s.stations →
      t.occupations = s.occupations.openAt n s.clock.openStamp → t.archive.staged = s.archive.staged → s.TableMoves t
  | emptied {o : Occupation} : s.occupation o.number = some o → o.state = .isOpen → s.engine.pendingAt o.number = 0 →
      t.stations = releaseOpen o s.stations → t.occupations = s.occupations.free o.number →
      t.archive.staged = s.archive.staged → s.TableMoves t
  | closed {o : Occupation} : s.occupation o.number = some o → o.state = .isOpen → s.engine.pendingAt o.number = 0 →
      t.stations = releaseOpen o s.stations → t.occupations = s.occupations.closeAt o.number s.clock.seconds →
      t.archive.staged = s.archive.staged → s.TableMoves t
  | discarded {o : Occupation} : s.occupation o.number = some o → o.state = .closed → t.stations = s.stations →
      t.occupations = s.occupations.free o.number → t.archive.staged = s.archive.staged → s.TableMoves t
  | staging {n : Nat} {q : List Nat} {b : BufferId} {o : Occupation} {st : Station} (c : Nat) :
      s.occupations.archiveQueue = n :: q → s.archive.freeBuffer = some b → s.occupation n = some o →
      t.stations = s.stations → t.occupations = s.occupations.stageHead n →
      t.archive.staged = (s.archive.setBuffer b (.loaded (stagedRecord o st c))).staged → s.TableMoves t
  | committed {b : BufferId} {r : StagedRecord} : s.archive.programmingBuffer = some (b, r) → t.stations = s.stations →
      t.occupations = s.occupations.free r.occupation → t.archive.staged = (s.archive.setBuffer b .free).staged →
      s.TableMoves t
  | mounted : s.startUp.phase = .mount → t.stations = s.stations →
      t.occupations = { s.occupations with counter := mountCounter s.flash.newest } →
      t.archive.staged = s.archive.staged → s.TableMoves t

/-! ### The staging buffers -/

theorem Archive.staged_of_buffers {a a' : Archive} (h0 : a'.buffer0.occupation = a.buffer0.occupation)
    (h1 : a'.buffer1.occupation = a.buffer1.occupation) : a'.staged = a.staged := by
  simp [Archive.staged, List.filterMap_cons, h0, h1]

theorem Archive.staged_of_eq {a a' : Archive} (h0 : a'.buffer0 = a.buffer0) (h1 : a'.buffer1 = a.buffer1) :
    a'.staged = a.staged := Archive.staged_of_buffers (by rw [h0]) (by rw [h1])

/-- A buffer that gets another condition for the same occupation. -/
theorem Archive.staged_setBuffer {a : Archive} {b : BufferId} {x : StagingBuffer}
    (h : x.occupation = (a.buffer b).occupation) : (a.setBuffer b x).staged = a.staged := by
  cases b
  · exact Archive.staged_of_buffers h rfl
  · exact Archive.staged_of_buffers rfl h

theorem Archive.advance_buffers (a : Archive) (wrap : Bool) :
    (a.advance wrap).buffer0 = a.buffer0 ∧ (a.advance wrap).buffer1 = a.buffer1 := by
  unfold Archive.advance
  split
  · exact ⟨rfl, rfl⟩
  · split <;> exact ⟨rfl, rfl⟩

@[simp] theorem Archive.advance_staged (a : Archive) (wrap : Bool) : (a.advance wrap).staged = a.staged :=
  Archive.staged_of_eq (a.advance_buffers wrap).1 (a.advance_buffers wrap).2

theorem Archive.programmingBuffer_eq_some {a : Archive} {b : BufferId} {r : StagedRecord}
    (h : a.programmingBuffer = some (b, r)) : a.buffer b = .programming r := by
  unfold Archive.programmingBuffer at h
  split at h
  next x => cases h; exact x
  next x _ => cases h; exact x
  next => cases h

theorem Archive.freeBuffer_eq_some {a : Archive} {b : BufferId} (h : a.freeBuffer = some b) : a.buffer b = .free := by
  unfold Archive.freeBuffer at h
  split at h
  next x => cases h; exact x
  next =>
    split at h
    next x => cases h; exact x
    next => cases h

@[simp] theorem State.postArch_archive (s : State) (k : ArchKind) (o p : Option Nat) :
    (s.postArch k o p).archive = s.archive := rfl

@[simp] theorem State.postFullIf_archive (s : State) (full : Bool) : (s.postFullIf full).archive = s.archive := by
  cases full <;> rfl

theorem State.releaseArchive_staged (s : State) : s.releaseArchive.archive.staged = s.archive.staged := by
  unfold State.releaseArchive
  split <;> rfl

@[simp] theorem State.seek_staged (s : State) (p : Port) (n : Nat) : (s.seek p n).archive.staged = s.archive.staged := by
  cases p <;> rfl

/-! ### The rules of the station and occupation requests -/

theorem State.kept_tables (s : State) : s.TableMoves s := .kept rfl rfl rfl

theorem stdfReply_moves (p : Port) (l : List Byte) (s : State) : s.TableMoves (stdfReply p l s).state := by
  generalize e : stdfReply p l s = reply
  unfold stdfReply State.sized at e
  dsimp only at e
  split at e
  · split at e
    · subst e; exact s.kept_tables
    split at e
    · subst e; exact s.kept_tables
    split at e
    · subst e; exact s.kept_tables
    split at e
    · subst e; exact s.kept_tables
    split at e
    next old present =>
      split at e
      · subst e; exact s.kept_tables
      · subst e; exact .redefined _ _ present rfl rfl rfl
    next absent =>
      split at e
      · subst e; exact s.kept_tables
      next room => subst e; exact .defined _ _ absent room rfl rfl rfl
  · subst e; exact s.kept_tables

theorem strmReply_moves (p : Port) (l : List Byte) (s : State) : s.TableMoves (strmReply p l s).state := by
  generalize e : strmReply p l s = reply
  unfold strmReply State.sized at e
  dsimp only at e
  split at e
  · split at e
    · subst e; exact s.kept_tables
    split at e
    · subst e; exact s.kept_tables
    split at e
    · subst e; exact s.kept_tables
    · split at e
      · subst e; exact s.kept_tables
      next unnamed => subst e; exact .removed (Nat.eq_zero_of_not_pos unnamed) rfl rfl rfl
  · subst e; exact s.kept_tables

theorem ocopReply_moves (p : Port) (l : List Byte) (s : State) (ready : s.startUp.phase = .ready) : s.TableMoves (ocopReply p l s).state := by
  generalize e : ocopReply p l s = reply
  unfold ocopReply State.sized at e
  dsimp only at e
  split at e
  · split at e
    · subst e; exact s.kept_tables
    split at e
    · subst e; exact s.kept_tables
    split at e
    · subst e; exact s.kept_tables
    next st present =>
    split at e
    · subst e; exact s.kept_tables
    next closed =>
    split at e
    · subst e; exact s.kept_tables
    next room => subst e; exact .opened _ ready present closed room rfl rfl rfl
  · subst e; exact s.kept_tables

theorem State.occupation_number {n : Nat} {o : Occupation} (h : s.occupation n = some o) : s.occupation o.number = some o := by
  rw [(State.occupation_eq_some h).2]; exact h

theorem occlReply_moves (p : Port) (l : List Byte) (s : State) : s.TableMoves (occlReply p l s).state := by
  generalize e : occlReply p l s = reply
  unfold occlReply State.sized at e
  split at e
  · split at e
    · subst e; exact s.kept_tables
    next o present =>
    split at e
    · subst e; exact s.kept_tables
    split at e
    · subst e; exact s.kept_tables
    next isOpen =>
    split at e
    · subst e; exact s.kept_tables
    next free =>
    have isOpen := not_not.mp isOpen
    have free := Nat.eq_zero_of_not_pos free
    unfold State.closeOccupation at e
    dsimp only at e
    split at e
    · subst e; exact .emptied (State.occupation_number present) isOpen free rfl rfl rfl
    · subst e; exact .closed (State.occupation_number present) isOpen free rfl rfl rfl
  · subst e; exact s.kept_tables

theorem ocdsReply_moves (p : Port) (l : List Byte) (s : State) : s.TableMoves (ocdsReply p l s).state := by
  generalize e : ocdsReply p l s = reply
  unfold ocdsReply State.sized at e
  split at e
  · split at e
    · subst e; exact s.kept_tables
    next o present =>
    split at e
    · subst e; exact s.kept_tables
    split at e
    · subst e; exact s.kept_tables
    next closed =>
      subst e
      exact .discarded (State.occupation_number present) closed (by simp [State.discardOccupation, closed]) rfl rfl
    next isOpen =>
      split at e
      · subst e; exact s.kept_tables
      next free =>
        subst e
        exact .emptied (State.occupation_number present) isOpen (Nat.eq_zero_of_not_pos free)
          (by simp [State.discardOccupation, isOpen]) rfl rfl
  · subst e; exact s.kept_tables

/-- A request's moves are its rule's, or none. -/
theorem exec_request_tableMoves {c : Instr} {p : Port} {tag : Byte} {name : List Byte}
    (request : c.request = some (p, tag, name)) (h : exec c s = .next t)
    (rule : (c.startsBusy = true → s.startUp.phase = .ready) → s.TableMoves (requestRule c s).state) : s.TableMoves t := by
  rcases exec_request_cases request h with ⟨_, rfl⟩ | ⟨_, _, _, rfl⟩ | ⟨_, ready, rfl⟩
  · exact .kept rfl rfl rfl
  · exact .kept (by simp) (by simp) (by simp)
  · replace rule := rule ready
    generalize requestRule c s = reply at rule ⊢
    have stations : (reply.state.answer p tag reply.status reply.payload).stations = reply.state.stations := by simp
    have occupations : (reply.state.answer p tag reply.status reply.payload).occupations = reply.state.occupations := by simp
    have archive : (reply.state.answer p tag reply.status reply.payload).archive = reply.state.archive := by simp
    generalize reply.state.answer p tag reply.status reply.payload = u at *
    cases rule with
    | kept a b c => exact .kept (stations.trans a) (occupations.trans b) (by rw [archive]; exact c)
    | redefined longitude factor x a b c =>
      exact .redefined longitude factor x (stations.trans a) (occupations.trans b) (by rw [archive]; exact c)
    | defined longitude factor x y a b c =>
      exact .defined longitude factor x y (stations.trans a) (occupations.trans b) (by rw [archive]; exact c)
    | removed x a b c => exact .removed x (stations.trans a) (occupations.trans b) (by rw [archive]; exact c)
    | opened count w x y z a b c =>
      exact .opened count w x y z (stations.trans a) (occupations.trans b) (by rw [archive]; exact c)
    | emptied x y z a b c => exact .emptied x y z (stations.trans a) (occupations.trans b) (by rw [archive]; exact c)
    | closed x y z a b c => exact .closed x y z (stations.trans a) (occupations.trans b) (by rw [archive]; exact c)
    | discarded x y a b c => exact .discarded x y (stations.trans a) (occupations.trans b) (by rw [archive]; exact c)
    | staging c x y z a b d => exact .staging c x y z (stations.trans a) (occupations.trans b) (by rw [archive]; exact d)
    | committed x a b c => exact .committed x (stations.trans a) (occupations.trans b) (by rw [archive]; exact c)
    | mounted x a b c => exact .mounted x (stations.trans a) (occupations.trans b) (by rw [archive]; exact c)

/-! ### Events of the archive -/

/-- Everything STAGING can do: nothing, stage the head of the queue, or stop where a table does not agree (R131, R140). -/
theorem execStaging_cases (s : State) : execStaging s = .next s ∨
    (∃ n q b o st c, s.occupations.archiveQueue = n :: q ∧ s.archive.freeBuffer = some b ∧ s.archive.state ≠ .mounting ∧
      s.occupation n = some o ∧ s.station o.station = some st ∧ o.closeTime = some c ∧ execStaging s = .next
        { s with
          archive := { s.archive.setBuffer b (.loaded (stagedRecord o st c)) with loadOrder := s.archive.loadOrder ++ [b] }
          occupations := s.occupations.stageHead n }) ∨
    ∃ f n q, s.occupations.archiveQueue = n :: q ∧ (s.occupation n = none ∨
      ∃ o, s.occupation n = some o ∧ (s.station o.station = none ∨ o.closeTime = none)) ∧ execStaging s = .fault f := by
  generalize e : execStaging s = outcome
  unfold execStaging at e
  split at e
  next n q b queue free =>
    split at e
    · exact .inl e.symm
    next state =>
    split at e
    next absent => exact .inr (.inr ⟨_, n, q, queue, .inl absent, e.symm⟩)
    next o present =>
    split at e
    next lost => exact .inr (.inr ⟨_, n, q, queue, .inr ⟨o, present, .inl lost⟩, e.symm⟩)
    next lost => exact .inr (.inr ⟨_, n, q, queue, .inr ⟨o, present, .inr lost⟩, e.symm⟩)
    next st c station time => exact .inr (.inl ⟨n, q, b, o, st, c, queue, free, state, present, station, time, e.symm⟩)
  · exact .inl e.symm

/-- START_PAGE_PROGRAM does nothing, or begins the program of a LOADED buffer (R142, R143). -/
theorem execStartPageProgram_cases (h : exec .startPageProgram s = .next t) : t = s ∨
    ∃ b rest r, s.archive.activity = .idle ∧ s.storeWaiting = false ∧ s.archive.state = .ready ∧
      s.archive.loadOrder = b :: rest ∧ s.archive.buffer b = .loaded r ∧ t =
        { s with
          archive := { s.archive.setBuffer b (.programming r) with loadOrder := rest, activity := .program }
          flash := s.flash.beginProgram s.archive.writePage r } := by
  change execStartPageProgram s = _ at h
  unfold execStartPageProgram at h
  split at h
  next ready =>
    obtain ⟨idle, waiting, state⟩ := ready
    split at h
    · cases h; exact .inl rfl
    next b rest order =>
      split at h
      next r loaded => cases h; exact .inr ⟨b, rest, r, idle, waiting, state, order, loaded, rfl⟩
      · cases h; exact .inl rfl
  · cases h; exact .inl rfl

theorem execPageProgramSuccess_cases (h : exec .pageProgramSuccess s = .next t) : t = s ∨
    ∃ b r, s.archive.activity = .program ∧ s.archive.programmingBuffer = some (b, r) ∧ t = s.programSucceeds b r := by
  cases h
  split
  next program =>
    split
    next b r buffer => exact .inr ⟨b, r, program, buffer, rfl⟩
    · exact .inl rfl
  · exact .inl rfl

theorem execPageProgramFailure_cases (h : exec .pageProgramFailure s = .next t) : t = s ∨
    ∃ b r, s.archive.activity = .program ∧ s.archive.programmingBuffer = some (b, r) ∧ t = s.programFails b r := by
  cases h
  split
  next program =>
    split
    next b r buffer => exact .inr ⟨b, r, program, buffer, rfl⟩
    · exact .inl rfl
  · exact .inl rfl

theorem execMountEnd_cases (h : exec .mountEnd s = .next t) : t = s ∨
    (s.startUp.phase = .mount ∧ t.stations = s.stations ∧ t.startUp.phase = .ready ∧ t.flash = s.flash ∧
      t.occupations = { s.occupations with counter := mountCounter s.flash.newest } ∧
      t.archive = { s.archive with
        state := if mountFull s.flash.newest s.model.groups.wrap then .full else .ready
        writePage := mountPage s.flash.newest, activity := .idle }) := by
  cases h
  split
  next mount => exact .inr ⟨mount, rfl, rfl, rfl, rfl, rfl⟩
  · exact .inl rfl

theorem State.programFails_staged {b : BufferId} {r : StagedRecord} (h : s.archive.programmingBuffer = some (b, r)) :
    (s.programFails b r).archive.staged = s.archive.staged := by
  have reload : (s.archive.reload b r).staged = s.archive.staged :=
    (Archive.staged_of_eq rfl rfl).trans
      (Archive.staged_setBuffer (b := b) (x := .loaded r) (by rw [Archive.programmingBuffer_eq_some h]; rfl))
  unfold State.programFails
  dsimp only
  split
  · rw [State.postFullIf_archive, ← reload]
    exact Archive.staged_of_eq (Archive.advance_buffers ..).1 (Archive.advance_buffers ..).2
  · exact (Archive.staged_of_eq rfl rfl).trans reload

theorem State.programSucceeds_archive (s : State) (b : BufferId) (r : StagedRecord) : (s.programSucceeds b r).archive =
    { (s.archive.setBuffer b .free).advance s.model.groups.wrap with failureCount := 0, activity := .idle } := by
  simp [State.programSucceeds]

theorem State.programSucceeds_occupations (s : State) (b : BufferId) (r : StagedRecord) :
    (s.programSucceeds b r).occupations = s.occupations.free r.occupation := by
  simp [State.programSucceeds]

theorem State.programSucceeds_flash (s : State) (b : BufferId) (r : StagedRecord) :
    (s.programSucceeds b r).flash = s.flash.commit s.archive.writePage r := by
  simp [State.programSucceeds]

/-! ### Every command -/

/-- A request whose rule changes nothing the staging buffers hold. -/
theorem exec_request_staged {c : Instr} {p : Port} {tag : Byte} {name : List Byte}
    (request : c.request = some (p, tag, name)) (h : exec c s = .next t)
    (rule : (requestRule c s).state.archive.staged = s.archive.staged) : t.archive.staged = s.archive.staged := by
  rcases exec_request_block (fun u => u.archive.staged) request h (by simp) with e | ⟨_, e⟩
  · exact e
  · exact e.trans rule

theorem State.enterSurvey_staged (s : State) : s.enterSurvey.archive.staged = s.archive.staged := by
  unfold State.enterSurvey State.postMode
  rw [State.postBoth_archive]
  refine (State.releaseArchive_staged _).trans ?_
  exact congrArg Archive.staged (by simp)

theorem arrtReply_staged (l : List Byte) (s : State) : (arrtReply l s).state.archive.staged = s.archive.staged := by
  unfold arrtReply State.sized State.resumeArchive
  dsimp only
  split
  · split
    · rw [State.postArch_archive]
      exact Archive.staged_of_eq (Archive.advance_buffers ..).1 (Archive.advance_buffers ..).2
    · rfl
  · rfl

theorem arskReply_staged (p : Port) (l : List Byte) (s : State) : (arskReply p l s).state.archive.staged = s.archive.staged := by
  have sought (found : Option Nat) : (s.seekReply p found).state.archive.staged = s.archive.staged := by
    cases found
    · rfl
    · exact s.seek_staged p _
  unfold arskReply State.sized
  repeat' split
  all_goals first | exact sought _ | rfl

theorem arnxReply_staged (p : Port) (l : List Byte) (s : State) : (arnxReply p l s).state.archive.staged = s.archive.staged := by
  unfold arnxReply State.sized State.stepCursor
  dsimp only
  repeat' split
  all_goals first | exact s.seek_staged p _ | rfl

/-- Every command but the resets and those that take part in a reading moves the tables in one of the ways listed. -/
theorem exec_tableMoves {c : Instr} (h : exec c s = .next t) (noReset : ¬Resets c) (rest : takesPart c = false) :
    s.TableMoves t := by
  have frame := exec_agreesOff h
  by_cases moves : Block.stations ∈ footprint c ∨ Block.occupations ∈ footprint c ∨ Block.archive ∈ footprint c
  case neg =>
    simp only [not_or] at moves
    exact .kept (frame.stations moves.1) (frame.occupations moves.2.1) (by rw [frame.archive moves.2.2])
  cases c
  case stdf p tag l => exact exec_request_tableMoves rfl h (fun _ => stdfReply_moves p l s)
  case strm p tag l => exact exec_request_tableMoves rfl h (fun _ => strmReply_moves p l s)
  case ocop p tag l => exact exec_request_tableMoves rfl h (fun ready => ocopReply_moves p l s (ready rfl))
  case occl p tag l => exact exec_request_tableMoves rfl h (fun _ => occlReply_moves p l s)
  case ocds p tag l => exact exec_request_tableMoves rfl h (fun _ => ocdsReply_moves p l s)
  case surv p tag l =>
    refine .kept (frame.stations (by simp [footprint])) (frame.occupations (by simp [footprint])) ?_
    refine exec_request_staged rfl h ?_
    rcases survReply_cases l s with e | ⟨_, _, e⟩ <;> rw [requestRule, e]
    exact s.enterSurvey_staged
  case arrt p tag l =>
    exact .kept (frame.stations (by simp [footprint])) (frame.occupations (by simp [footprint]))
      (exec_request_staged rfl h (arrtReply_staged l s))
  case arsk p tag l =>
    exact .kept (frame.stations (by simp [footprint])) (frame.occupations (by simp [footprint]))
      (exec_request_staged rfl h (arskReply_staged p l s))
  case arnx p tag l =>
    exact .kept (frame.stations (by simp [footprint])) (frame.occupations (by simp [footprint]))
      (exec_request_staged rfl h (arnxReply_staged p l s))
  case modelLoadEnd =>
    refine .kept (frame.stations (by simp [footprint])) (frame.occupations (by simp [footprint])) ?_
    cases h; split <;> rfl
  case mountEnd =>
    rcases execMountEnd_cases h with rfl | ⟨mount, stations, _, _, occupations, archive⟩
    · exact t.kept_tables
    · exact .mounted mount stations occupations (by rw [archive]; rfl)
  case staging =>
    change execStaging s = _ at h
    rcases execStaging_cases s with e | ⟨n, q, b, o, st, c, queue, free, _, present, _, _, e⟩ | ⟨_, _, _, _, _, e⟩
    · rw [e] at h; cases h; exact s.kept_tables
    · rw [e] at h; cases h
      exact .staging c queue free present rfl rfl (Archive.staged_of_eq rfl rfl)
    · rw [e] at h; cases h
  case startModelStore =>
    refine .kept (frame.stations (by simp [footprint])) (frame.occupations (by simp [footprint])) ?_
    cases h; split <;> rfl
  case startPageProgram =>
    refine .kept (frame.stations (by simp [footprint])) (frame.occupations (by simp [footprint])) ?_
    rcases execStartPageProgram_cases h with rfl | ⟨b, rest, r, _, _, _, _, loaded, rfl⟩
    · rfl
    · exact (Archive.staged_of_eq rfl rfl).trans
        (Archive.staged_setBuffer (b := b) (x := .programming r) (by rw [loaded]; rfl))
  case pageProgramSuccess =>
    rcases execPageProgramSuccess_cases h with rfl | ⟨b, r, _, buffer, rfl⟩
    · exact t.kept_tables
    · refine .committed buffer (frame.stations (by simp [footprint])) (s.programSucceeds_occupations b r) ?_
      rw [s.programSucceeds_archive b r]
      exact Archive.staged_of_eq (Archive.advance_buffers ..).1 (Archive.advance_buffers ..).2
  case pageProgramFailure =>
    refine .kept (frame.stations (by simp [footprint])) (frame.occupations (by simp [footprint])) ?_
    rcases execPageProgramFailure_cases h with rfl | ⟨b, r, _, buffer, rfl⟩
    · rfl
    · exact State.programFails_staged buffer
  case modelStoreCompletion v =>
    refine .kept (frame.stations (by simp [footprint])) (frame.occupations (by simp [footprint])) ?_
    cases h; split <;> rfl
  case powerReset m => exact absurd ⟨m, .inl rfl⟩ noReset
  case lineReset m => exact absurd ⟨m, .inr rfl⟩ noReset
  all_goals simp [footprint, takesPart] at moves rest

end Sys2Proof.Machine
end

section
/-!
PROOFS. Chapters 7.1, 7.2 and 7.5: tickets stay distinct, counts add up, and results stay within the bounds of R107.
-/

namespace Sys2Proof.Machine

variable {s t : State} {r r' : Reading}

/-! ### A counter that goes on past every value held (R93, R125) -/

theorem advancePast_iterate (wrap : Nat → Nat) (held : List Nat) : ∀ n v : Nat, ∃ i, i ≤ n ∧
    advancePast wrap held n v = wrap^[i] v ∧ (∀ j, j < i → wrap^[j] v ∈ held) ∧ (i < n → wrap^[i] v ∉ held)
  | 0, v => ⟨0, le_refl _, rfl, nofun, nofun⟩
  | n + 1, v => by
    by_cases free : v ∈ held
    · obtain ⟨i, le, e, before, free'⟩ := advancePast_iterate wrap held n (wrap v)
      refine ⟨i + 1, by omega, ?_, ?_, fun lt => free' (by omega)⟩
      · rw [advancePast, if_pos (by simpa using free), e, Function.iterate_succ_apply]
      · intro j lt
        cases j with
        | zero => exact free
        | succ j => exact before j (by omega)
    · exact ⟨0, by omega, by rw [advancePast, if_neg (by simpa using free)]; rfl, nofun, fun _ => free⟩

/-- Where more values follow one another without repeating than are held, the advance ends at the first free one. -/
theorem advancePast_firstFree {wrap : Nat → Nat} {held : List Nat} {v : Nat}
    (distinct : ∀ i j, i < j → j ≤ held.length → wrap^[i] (wrap v) ≠ wrap^[j] (wrap v)) :
    FirstFree wrap held v (advancePast wrap held held.length (wrap v)) := by
  obtain ⟨i, le, e, before, free⟩ := advancePast_iterate wrap held held.length (wrap v)
  rw [e]
  refine ⟨fun taken => ?_, i, Function.iterate_succ_apply .., fun j lt => ?_⟩
  · have last : i = held.length := by
      by_contra short
      exact free (by omega) taken
    have inside : ∀ j ∈ Finset.range (held.length + 1), wrap^[j] (wrap v) ∈ held.toFinset := by
      intro j hj
      rw [List.mem_toFinset]
      rcases Nat.lt_or_ge j i with lt | ge
      · exact before j lt
      · rwa [show j = i by simp at hj; omega]
    have injective : Set.InjOn (fun j => wrap^[j] (wrap v)) (Finset.range (held.length + 1)) := by
      intro a ha b hb eq
      simp only [Finset.coe_range, Set.mem_Iio] at ha hb
      rcases lt_trichotomy a b with lt | rfl | lt
      · exact absurd eq (distinct a b lt (by omega))
      · rfl
      · exact absurd eq.symm (distinct b a lt (by omega))
    have card := Finset.card_le_card_of_injOn _ inside injective
    rw [Finset.card_range] at card
    have := held.toFinset_card_le
    omega
  · rw [Function.iterate_succ_apply]; exact before j lt

/-- A counter over 1..m, wrapping from m to 1; a value above m never wraps. -/
def cycle (m t : Nat) : Nat := if t = m then 1 else t + 1

theorem ticketAfter_eq : ticketAfter = cycle 65535 := rfl

theorem counterAfter_eq : counterAfter = cycle 4294967295 := rfl

theorem cycle_pos (m t : Nat) : 1 ≤ cycle m t := by unfold cycle; split <;> omega

theorem cycle_le {m t : Nat} (m1 : 1 ≤ m) (h : t ≤ m) : cycle m t ≤ m := by unfold cycle; split <;> omega

theorem cycle_iterate_above {m x : Nat} (h : m < x) : ∀ i, (cycle m)^[i] x = x + i
  | 0 => rfl
  | i + 1 => by rw [Function.iterate_succ_apply', cycle_iterate_above h i, cycle, if_neg (by omega)]; rfl

theorem succ_mod {a m : Nat} (h : 0 < m) : (a + 1) % m = if a % m + 1 = m then 0 else a % m + 1 := by
  have small := Nat.mod_lt a h
  have e : a + 1 = a % m + 1 + m * (a / m) := by have := Nat.mod_add_div a m; omega
  rw [e, Nat.add_mul_mod_self_left]
  split
  next last => rw [last, Nat.mod_self]
  next inner => exact Nat.mod_eq_of_lt (by omega)

theorem cycle_iterate_within {m x : Nat} (low : 1 ≤ x) (high : x ≤ m) : ∀ i, (cycle m)^[i] x = (x - 1 + i) % m + 1
  | 0 => by rw [Nat.add_zero, Nat.mod_eq_of_lt (by omega)]; simp; omega
  | i + 1 => by
    rw [Function.iterate_succ_apply', cycle_iterate_within low high i, cycle, ← Nat.add_assoc, succ_mod (by omega)]
    split <;> rfl

/-- Up to m advances of the counter do not repeat a value. -/
theorem cycle_distinct {m x i j : Nat} (low : 1 ≤ x) (lt : i < j) (le : j < m) : (cycle m)^[i] x ≠ (cycle m)^[j] x := by
  rcases Nat.lt_or_ge m x with above | within
  · rw [cycle_iterate_above above, cycle_iterate_above above]; omega
  · rw [cycle_iterate_within low within, cycle_iterate_within low within]
    intro e
    have e : (x - 1 + i) % m = (x - 1 + j) % m := by omega
    have div := (Nat.modEq_iff_dvd' (by omega)).mp e
    have := Nat.le_of_dvd (by omega) div
    omega

theorem cycle_iterate_le {m x : Nat} (m1 : 1 ≤ m) (h : x ≤ m) : ∀ i, (cycle m)^[i] x ≤ m
  | 0 => h
  | i + 1 => by rw [Function.iterate_succ_apply']; exact cycle_le m1 (cycle_iterate_le m1 h i)

theorem cycle_firstFree {m v : Nat} {held : List Nat} (fits : held.length < m) :
    FirstFree (cycle m) held v (advancePast (cycle m) held held.length (cycle m v)) :=
  advancePast_firstFree fun _ _ lt le => cycle_distinct (cycle_pos m v) lt (by omega)

/-- The value a counter advances to lies in 1..m. -/
theorem FirstFree.range {m old new : Nat} {held : List Nat} (h : FirstFree (cycle m) held old new) (m1 : 1 ≤ m)
    (range : old ≤ m) : 1 ≤ new ∧ new ≤ m := by
  obtain ⟨_, i, rfl, _⟩ := h
  exact ⟨by rw [Function.iterate_succ_apply']; exact cycle_pos .., cycle_iterate_le m1 range _⟩

/-! ### Requests keep their terms -/

/-- Two readings of one request: ticket, port, occupation, station, terms and generation are the same (R93, R95). -/
structure Reading.SameRequest (r r' : Reading) : Prop where
  ticket : r'.ticket = r.ticket
  port : r'.port = r.port
  occupation : r'.occupation = r.occupation
  station : r'.station = r.station
  n : r'.n = r.n
  m : r'.m = r.m
  retries : r'.r = r.r
  k : r'.k = r.k
  generation : r'.generation = r.generation

theorem Reading.SameRequest.refl (r : Reading) : r.SameRequest r := ⟨rfl, rfl, rfl, rfl, rfl, rfl, rfl, rfl, rfl⟩

theorem Reading.SameRequest.trans {a b c : Reading} (h : a.SameRequest b) (k : b.SameRequest c) : a.SameRequest c :=
  ⟨k.1.trans h.1, k.2.trans h.2, k.3.trans h.3, k.4.trans h.4, k.5.trans h.5, k.6.trans h.6, k.7.trans h.7, k.8.trans h.8,
    k.9.trans h.9⟩

theorem Reading.Marks.sameRequest (h : r.Marks r') : r.SameRequest r' := by
  obtain ⟨_, _, _, rfl⟩ := h
  exact ⟨rfl, rfl, rfl, rfl, rfl, rfl, rfl, rfl, rfl⟩

theorem Reading.Attempts.sameRequest {g : Groups} (h : r.Attempts g r') : r.SameRequest r' := by
  cases h <;> exact ⟨rfl, rfl, rfl, rfl, rfl, rfl, rfl, rfl, rfl⟩

/-! ### Tickets -/

theorem Engine.tickets_of_none {e : Engine} (h : e.reading = none) : e.tickets = e.queue.map (·.ticket) := by
  simp [Engine.tickets, h]

theorem Engine.tickets_of_some {e : Engine} (h : e.reading = some r) :
    e.tickets = e.queue.map (·.ticket) ++ [r.ticket] := by
  simp [Engine.tickets, h]

/-- The invariant of the tickets in terms of what it reads: the queue's tickets, those in flight, and the next one. -/
theorem Engine.ticketsDistinct_of_tickets {e e' : Engine} (h : e.TicketsDistinct) (length : e'.queue.length ≤ 4)
    (tickets : e'.tickets.Subperm e.tickets) (next : e'.nextTicket = e.nextTicket) : e'.TicketsDistinct where
  length := length
  distinct := by
    obtain ⟨l, perm, sub⟩ := tickets
    exact perm.nodup_iff.mp (h.distinct.sublist sub)
  fresh := by rw [next]; exact fun held => h.fresh (tickets.subset held)
  next := by rw [next]; exact h.next
  range := fun t held => h.range t (tickets.subset held)

/-- The engine's books as `EngineMoves` gives them, with no more tickets than before. -/
theorem State.Books.ticketsDistinct {q : List QueueEntry} {reading : Option Reading} {o : OccupationTable}
    (books : t.Books q s.engine.nextTicket reading o) (h : s.engine.TicketsDistinct) (queue : q.Sublist s.engine.queue)
    (same : reading = none ∨ ∃ r r', s.engine.reading = some r ∧ reading = some r' ∧ r'.ticket = r.ticket) :
    t.engine.TicketsDistinct := by
  refine Engine.ticketsDistinct_of_tickets h (books.queue ▸ queue.length_le.trans h.length) ?_ books.next
  have queue' : (t.engine.queue.map (·.ticket)).Sublist (s.engine.queue.map (·.ticket)) := books.queue ▸ queue.map _
  rcases same with rfl | ⟨r, r', before, rfl, ticket⟩
  · rw [Engine.tickets_of_none books.reading]
    exact (queue'.trans (List.sublist_append_left ..)).subperm
  · rw [Engine.tickets_of_some books.reading, Engine.tickets_of_some before, ticket]
    exact (queue'.append (.refl _)).subperm

theorem Engine.Handed.ticketsDistinct {e e' : Engine} {told : LevelState} (handed : e.Handed told e') (h : e.TicketsDistinct) :
    e'.TicketsDistinct :=
  Engine.ticketsDistinct_of_tickets h (handed.queue ▸ h.length)
    (by rw [Engine.tickets, handed.queue, handed.reading]; exact List.Subperm.refl _) handed.next

/-- An accepted request takes the next ticket, and the next one after it is free again (R93). -/
theorem Engine.accept_ticketsDistinct {e : Engine} (h : e.TicketsDistinct) (room : e.queue.length ≠ 4) (p : Port)
    (occ n m r k : Nat) : (e.accept p occ n m r k).TicketsDistinct := by
  have shorter : e.queue.length ≤ 3 := by have := h.length; omega
  have perm : (e.accept p occ n m r k).tickets.Perm (e.nextTicket :: e.tickets) := by
    simp only [Engine.tickets, Engine.accept, List.map_append, List.map_cons, List.map_nil, List.append_assoc,
      List.singleton_append]
    exact List.perm_middle
  have fits : (e.accept p occ n m r k).tickets.length < 65535 := by
    have held : e.tickets.length ≤ e.queue.length + 1 := by
      cases reading : e.reading <;> simp [Engine.tickets, reading]
    rw [perm.length_eq, List.length_cons]; omega
  have free := cycle_firstFree (v := e.nextTicket) fits
  refine ⟨by simp only [Engine.accept, List.length_append, List.length_singleton]; omega,
    perm.nodup_iff.mpr (List.nodup_cons.mpr ⟨h.fresh, h.distinct⟩), free.1, free.range (by omega) h.next.2, ?_⟩
  intro t held
  rcases List.mem_cons.mp (perm.subset held) with rfl | held
  · exact h.next
  · exact h.range t held

theorem exec_ticketsDistinct {c : Instr} (inv : s.engine.TicketsDistinct) (h : exec c s = .next t) :
    t.engine.TicketsDistinct := by
  by_cases rest : takesPart c = false
  · exact (exec_handed h rest).ticketsDistinct inv
  cases exec_engineMoves h (.inl (by simpa using rest)) with
  | kept books =>
    cases reading : s.engine.reading with
    | none => exact books.ticketsDistinct inv (.refl _) (.inl reading)
    | some r => exact books.ticketsDistinct inv (.refl _) (.inr ⟨r, r, reading, reading, rfl⟩)
  | marked reading marks _ books =>
    exact books.ticketsDistinct inv (.refl _) (.inr ⟨_, _, reading, rfl, marks.sameRequest.ticket⟩)
  | attempted reading _ marks attempt marks' _ _ books =>
    exact books.ticketsDistinct inv (.refl _)
      (.inr ⟨_, _, reading, rfl, ((marks.sameRequest.trans attempt.sameRequest).trans marks'.sameRequest).ticket⟩)
  | ended _ books | finished _ _ _ _ books => exact books.ticketsDistinct inv (.refl _) (.inl rfl)
  | @accepted o occ n m r k p _ _ _ _ room _ _ books =>
    have fresh := Engine.accept_ticketsDistinct inv room p occ n m r k
    obtain ⟨queue, next, reading, _⟩ := books
    refine Engine.ticketsDistinct_of_tickets fresh (queue ▸ fresh.length) ?_ next
    rw [Engine.tickets, Engine.tickets, queue, reading]
    exact List.Subperm.refl _
  | @taken q qs o r _ idle queue _ marks _ books =>
    obtain ⟨queue', next, reading, _⟩ := books
    have ticket : r.ticket = q.ticket := marks.sameRequest.ticket
    refine Engine.ticketsDistinct_of_tickets inv ?_ ?_ next
    · have := inv.length; rw [queue] at this; rw [queue']; simp at this; omega
    · rw [Engine.tickets_of_some reading, Engine.tickets_of_none idle, queue, queue', ticket]
      exact (List.perm_append_singleton ..).subperm
  | cancelled q books =>
    cases reading : s.engine.reading with
    | none => exact books.ticketsDistinct inv List.filter_sublist (.inl reading)
    | some r => exact books.ticketsDistinct inv List.filter_sublist (.inr ⟨r, r, reading, reading, rfl⟩)
  | restarted books => exact books.ticketsDistinct inv (List.nil_sublist _) (.inl rfl)
  | reset _ _ books =>
    obtain ⟨queue, next, reading, _⟩ := books
    have tickets : t.engine.tickets = [] := by rw [Engine.tickets_of_none reading, queue]; rfl
    exact ⟨by simp [queue], by simp [tickets], by simp [tickets], by simp [next], by simp [tickets]⟩

/-! ### Results -/

/-- A reading that finishes: the reading in flight with its last attempt counted, M gates accepted at least (R106). -/
def State.Finishes (s : State) (r1 : Reading) : Prop :=
  ∃ r r0, s.engine.reading = some r ∧ r.Marks r0 ∧ (r1 = r0 ∨ r0.Attempts s.model.groups r1) ∧ r1.m ≤ r1.accepted

theorem mem_appendResult {x : ReadingResult} {l : List Occupation} {o : Occupation} (h : o ∈ appendResult x l) :
    ∃ o' ∈ l, o.number = o'.number ∧ o.station = o'.station ∧ o.state = o'.state ∧ o.openTime = o'.openTime ∧
      o.closeTime = o'.closeTime ∧ (o.results = o'.results ∨ o'.number = x.occupation ∧ o.results = o'.results ++ [x]) := by
  obtain ⟨o', mem, rfl⟩ := List.mem_map.mp h
  refine ⟨o', mem, ?_⟩
  split
  next here => exact ⟨rfl, rfl, rfl, rfl, rfl, .inr ⟨here, rfl⟩⟩
  next => exact ⟨rfl, rfl, rfl, rfl, rfl, .inl rfl⟩

theorem OccupationTable.mem_free {o : Occupation} {l : OccupationTable} {n : Nat} :
    o ∈ (l.free n).entries ↔ o ∈ l.entries ∧ o.number ≠ n := by
  simp [OccupationTable.free]

/-- No result comes into a reading list but by a reading that finishes. -/
theorem State.TableMoves.results (h : s.TableMoves t) {o : Occupation} (mem : o ∈ t.occupations.entries) :
    o.results = [] ∨ ∃ o' ∈ s.occupations.entries, o'.results = o.results := by
  cases h with
  | kept _ e | redefined _ _ _ _ e | defined _ _ _ _ _ e | removed _ _ e | mounted _ _ e =>
    rw [e] at mem; exact .inr ⟨o, mem, rfl⟩
  | opened _ _ _ _ _ _ e =>
    rw [e] at mem
    rcases List.mem_append.mp mem with mem | mem
    · exact .inr ⟨o, mem, rfl⟩
    · cases List.mem_singleton.mp mem; exact .inl rfl
  | emptied _ _ _ _ e | discarded _ _ _ e | committed _ _ e =>
    rw [e] at mem; exact .inr ⟨o, (OccupationTable.mem_free.mp mem).1, rfl⟩
  | closed _ _ _ _ e | staging _ _ _ _ _ e =>
    rw [e] at mem
    obtain ⟨o', mem', rfl⟩ := List.mem_map.mp mem
    exact .inr ⟨o', mem', by split <;> rfl⟩

theorem State.EngineMoves.results (h : s.EngineMoves t) {o : Occupation} (mem : o ∈ t.occupations.entries)
    {x : ReadingResult} (listed : x ∈ o.results) :
    (∃ o' ∈ s.occupations.entries, x ∈ o'.results) ∨ ∃ r1, s.Finishes r1 ∧ x = r1.result := by
  cases h with
  | kept books | marked _ _ _ books | attempted _ _ _ _ _ _ _ books | ended _ books | accepted _ _ _ _ _ _ _ _ books
  | taken _ _ _ _ _ _ books | cancelled _ books | restarted books =>
    rw [books.table] at mem; exact .inl ⟨o, mem, listed⟩
  | finished reading marks attempt enough books =>
    rw [books.table] at mem
    obtain ⟨o', mem, _, _, _, _, _, same | ⟨_, more⟩⟩ := mem_appendResult mem
    · exact .inl ⟨o', mem, same ▸ listed⟩
    · rw [more] at listed
      rcases List.mem_append.mp listed with listed | listed
      · exact .inl ⟨o', mem, listed⟩
      · exact .inr ⟨_, ⟨_, _, reading, marks, attempt, enough⟩, List.mem_singleton.mp listed⟩
  | reset _ _ books => rw [books.table] at mem; cases mem

theorem exec_results {c : Instr} (h : exec c s = .next t) {o : Occupation} (mem : o ∈ t.occupations.entries)
    {x : ReadingResult} (listed : x ∈ o.results) :
    (∃ o' ∈ s.occupations.entries, x ∈ o'.results) ∨ ∃ r1, s.Finishes r1 ∧ x = r1.result := by
  by_cases part : takesPart c = true
  · exact (exec_engineMoves h (.inl part)).results mem listed
  · have noReset : ¬Resets c := by rintro ⟨m, rfl | rfl⟩ <;> exact part rfl
    rcases (exec_tableMoves h noReset (by simpa using part)).results mem with none | ⟨o', mem', same⟩
    · rw [none] at listed; cases listed
    · exact .inl ⟨o', mem', same ▸ listed⟩

/-! ### The queue and the reading -/

/-- Everything that can be in the queue after a command: an entry that was there, or one whose terms were clamped. -/
theorem exec_queue {c : Instr} (h : exec c s = .next t) {q : QueueEntry} (mem : q ∈ t.engine.queue) :
    q ∈ s.engine.queue ∨ Clamped q.n q.m q.r q.k := by
  by_cases rest : takesPart c = false
  · rw [(exec_handed h rest).queue] at mem; exact .inl mem
  cases exec_engineMoves h (.inl (by simpa using rest)) with
  | kept books | marked _ _ _ books | attempted _ _ _ _ _ _ _ books | ended _ books | finished _ _ _ _ books =>
    rw [books.queue] at mem; exact .inl mem
  | accepted _ _ _ _ _ _ _ clamped books =>
    rw [books.queue] at mem
    rcases List.mem_append.mp mem with mem | mem
    · exact .inl mem
    · cases List.mem_singleton.mp mem; exact .inr clamped
  | taken _ _ queue _ _ _ books =>
    rw [books.queue] at mem; exact .inl (queue ▸ List.mem_cons_of_mem _ mem)
  | cancelled _ books => rw [books.queue] at mem; exact .inl (List.mem_of_mem_filter mem)
  | restarted books | reset _ _ books => rw [books.queue] at mem; cases mem

/-- Everything the reading in flight can be after a command: the one before, as it was but for its marks or with an attempt
counted, or a queue entry's. -/
inductive State.ReadingMoves (s : State) : Reading → Prop
  | marked {r r' : Reading} : s.engine.reading = some r → r.Marks r' → s.ReadingMoves r'
  | attempted {r r0 r1 r2 : Reading} : s.engine.reading = some r → r.Marks r0 → r0.Attempts s.model.groups r1 →
      r1.Marks r2 → (r1.accepted = r0.accepted ∨ r1.accepted ≠ r1.n) → r1.attempts ≠ r1.n + r1.r → s.ReadingMoves r2
  | taken {q : QueueEntry} {r : Reading} (station due : Nat) : q ∈ s.engine.queue →
      (q.reading station s.model.generation due).Marks r → s.ReadingMoves r

theorem exec_reading {c : Instr} (h : exec c s = .next t) (reading : t.engine.reading = some r) : s.ReadingMoves r := by
  by_cases rest : takesPart c = false
  · rw [(exec_handed h rest).reading] at reading; exact .marked reading (.refl r)
  cases exec_engineMoves h (.inl (by simpa using rest)) with
  | kept books | accepted _ _ _ _ _ _ _ _ books | cancelled _ books =>
    exact .marked (books.reading.symm.trans reading) (.refl r)
  | marked before marks _ books =>
    cases books.reading.symm.trans reading; exact .marked before marks
  | attempted before _ marks attempt marks' more left books =>
    cases books.reading.symm.trans reading; exact .attempted before marks attempt marks' more left
  | taken due idle queue _ marks _ books =>
    cases books.reading.symm.trans reading; exact .taken _ due (by simp [queue]) marks
  | ended _ books | finished _ _ _ _ books | restarted books | reset _ _ books => cases books.reading.symm.trans reading

/-! ### Counts -/

/-- The counts of a reading whose last gate is counted: no more gates than its terms allow. -/
def Reading.CountsWithin (r : Reading) : Prop :=
  Clamped r.n r.m r.r r.k ∧ r.accepted ≤ r.n ∧ r.attempts ≤ r.n + r.r ∧ r.accepted + r.drops.total = r.attempts

theorem Reading.CountsAddUp.within (h : r.CountsAddUp) : r.CountsWithin :=
  ⟨h.1, h.2.1.le, h.2.2.1.le, h.2.2.2⟩

theorem Reading.Marks.countsAddUp (marks : r.Marks r') (h : r.CountsAddUp) : r'.CountsAddUp := by
  obtain ⟨_, _, _, rfl⟩ := marks
  exact h

theorem Reading.Attempts.countsWithin {g : Groups} (attempt : r.Attempts g r') (h : r.CountsAddUp) : r'.CountsWithin := by
  obtain ⟨clamped, accepted, attempts, total⟩ := h
  cases attempt with
  | dropped count => exact ⟨clamped, accepted.le, attempts, by simp only [Reading.attempted, count]; omega⟩
  | sampled => exact ⟨clamped, accepted, attempts, by simp only [Reading.acceptGate, Reading.attempted]; omega⟩

theorem Reading.CountsWithin.addUp (h : r.CountsWithin) (more : r.accepted ≠ r.n) (left : r.attempts ≠ r.n + r.r) :
    r.CountsAddUp := by
  obtain ⟨clamped, accepted, attempts, total⟩ := h
  exact ⟨clamped, by omega, by omega, total⟩

theorem Reading.CountsWithin.result (h : r.CountsWithin) (enough : r.m ≤ r.accepted) : r.result.CountsAddUp := by
  obtain ⟨clamped, accepted, attempts, total⟩ := h
  exact ⟨clamped.1, enough, accepted, clamped.2.2.1, total, by simp only [Reading.result]; omega⟩

theorem State.Finishes.counts {r1 : Reading} (h : s.Finishes r1) (inv : s.CountsAddUp) : r1.result.CountsAddUp := by
  obtain ⟨r, r0, reading, marks, rfl | attempt, enough⟩ := h
  · exact (marks.countsAddUp (inv.reading r reading)).within.result enough
  · exact (attempt.countsWithin (marks.countsAddUp (inv.reading r reading))).result enough

theorem exec_countsAddUp {c : Instr} (inv : s.CountsAddUp) (h : exec c s = .next t) : t.CountsAddUp where
  queue q mem := (exec_queue h mem).elim (inv.queue q) id
  reading r reading := by
    cases exec_reading h reading with
    | marked before marks => exact marks.countsAddUp (inv.reading _ before)
    | attempted before marks attempt marks' more left =>
      have counts := marks.countsAddUp (inv.reading _ before)
      refine marks'.countsAddUp ((attempt.countsWithin counts).addUp ?_ left)
      rcases more with same | more
      · rw [same, attempt.sameRequest.n]; exact counts.2.1.ne
      · exact more
    | taken _ _ mem marks =>
      have clamped := inv.queue _ mem
      exact marks.countsAddUp ⟨clamped, by simp only [QueueEntry.reading]; omega, by simp only [QueueEntry.reading]; omega, rfl⟩
  results o mem x listed := by
    rcases exec_results h mem listed with ⟨o', mem', listed'⟩ | ⟨r1, finishes, rfl⟩
    · exact inv.results o' mem' x listed'
    · exact finishes.counts inv

/-! ### Bounds -/

/-- A quotient rounded lies within the bounds that its dividend keeps. -/
theorem roundDiv_le {n B : Int} {d : Nat} (hd : 0 < d) (h : n ≤ B * d) : roundDiv n d ≤ B := by
  by_contra more
  have near := (roundDiv_near n hd).2
  have : (d : Int) * (B + 1) ≤ d * roundDiv n d := mul_le_mul_of_nonneg_left (by omega) (by positivity)
  have e : (d : Int) * (B + 1) = B * d + d := by ring
  rw [e] at this
  generalize (d : Int) * roundDiv n d = x at *
  omega

theorem le_roundDiv {n B : Int} {d : Nat} (hd : 0 < d) (h : B * d ≤ n) : B ≤ roundDiv n d := by
  have := roundDiv_le (n := -n) (B := -B) hd (by rw [neg_mul]; omega)
  rw [roundDiv_neg] at this
  omega

theorem clampGravity_within (v : Int) : Within (-2000000000) 2000000000 (clampGravity v) := clampInt_within (by omega) v

theorem clampCorrection_within (v : Int) : Within (-50000000) 50000000 (clampCorrection v) := clampInt_within (by omega) v

theorem lookup_within {slots : List CaliSlot} {raw : Nat} {gcal : Int} {off : Bool} (h : lookup slots raw = some (gcal, off)) :
    Within (-2000000000) 2000000000 gcal := by
  obtain ⟨⟨c, x, o⟩, _, e⟩ := Option.map_eq_some_iff.mp h
  cases e
  exact clampGravity_within _

theorem tiltCorrection_within {g0 : Int} (h : 0 ≤ g0) (tx ty : Int) : Within 0 50000000 (tiltCorrection g0 tx ty) := by
  have dividend : 0 ≤ g0 * (tx * tx + ty * ty) := mul_nonneg h (add_nonneg (mul_self_nonneg _) (mul_self_nonneg _))
  refine ⟨?_, (clampCorrection_within _).2⟩
  have quotient := roundDiv_nonneg 200000000000 dividend
  unfold tiltCorrection clampCorrection clampInt
  split
  · omega
  · split <;> omega

theorem synthesize_within (g : Groups) (time : Nat) (longitude : Int) (factor : Option Nat) :
    Within (-50000000) 50000000 (synthesize g time longitude factor).correction := clampCorrection_within _

/-- Marks and attempts that are dropped leave the sums. -/
theorem Reading.Marks.sumsInRange (marks : r.Marks r') (h : r.SumsInRange) : r'.SumsInRange := by
  obtain ⟨_, _, _, rfl⟩ := marks
  exact ⟨h.value, h.cal, h.tilt, h.thermal, h.tide, h.least, h.greatest⟩

/-- Every attempt keeps the sums within what the accepted gates can give (R104, R105). -/
theorem Reading.Attempts.sumsInRange {g : Groups} (attempt : r.Attempts g r') (h : r.SumsInRange) (gravity : 0 ≤ g.gate.g0) :
    r'.SumsInRange := by
  obtain ⟨value, cal, tilt, thermal, tide, least, greatest⟩ := h
  cases attempt with
  | dropped => exact ⟨value, cal, tilt, thermal, tide, least, greatest⟩
  | @sampled raw gcal off held temp b st slot =>
    have value' := clampGravity_within (sampleSum gcal (tiltCorrection g.gate.g0 held.tx held.ty)
      (thermalCorrection g.thrm temp b) (synthesize g held.report.tideTime st.longitude st.factor).correction)
    have cal' := lookup_within slot
    have tilt' := tiltCorrection_within gravity held.tx held.ty
    have thermal' : Within (-50000000) 50000000 (thermalCorrection g.thrm temp b) := clampCorrection_within _
    have tide' := synthesize_within g held.report.tideTime st.longitude st.factor
    constructor
    case least =>
      by_cases first : r.accepted = 0
      · simpa only [Reading.acceptGate, Reading.attempted, computeSample, first, if_true] using value'
      · simp only [Reading.acceptGate, Reading.attempted, computeSample, first, if_false]; omega
    case greatest =>
      by_cases first : r.accepted = 0
      · simpa only [Reading.acceptGate, Reading.attempted, computeSample, first, if_true] using value'
      · simp only [Reading.acceptGate, Reading.attempted, computeSample, first, if_false]; omega
    all_goals
      simp only [Reading.acceptGate, Reading.attempted, computeSample]
      push_cast
      omega

/-- A result's means lie within the bounds of the samples (R107). -/
theorem Reading.SumsInRange.result (h : r.SumsInRange) (some : 0 < r.accepted) : r.result.InRange := by
  obtain ⟨value, cal, tilt, thermal, tide, least, greatest⟩ := h
  refine ⟨⟨le_roundDiv some value.1, roundDiv_le some value.2⟩, ⟨le_roundDiv some cal.1, roundDiv_le some cal.2⟩,
    ⟨le_roundDiv some (by simpa using tilt.1), roundDiv_le some tilt.2⟩,
    ⟨le_roundDiv some thermal.1, roundDiv_le some thermal.2⟩, ⟨le_roundDiv some tide.1, roundDiv_le some tide.2⟩, ?_⟩
  simp only [Reading.result]
  omega

theorem State.Finishes.inRange {r1 : Reading} (h : s.Finishes r1) (inv : s.ResultsInRange) : r1.result.InRange := by
  obtain ⟨r, r0, reading, marks, rfl | attempt, enough⟩ := h
  · obtain ⟨sums, least⟩ := inv.reading r reading
    have m := marks.sameRequest.m
    exact (marks.sumsInRange sums).result (by omega)
  · obtain ⟨sums, least⟩ := inv.reading r reading
    have m := (marks.sameRequest.trans attempt.sameRequest).m
    exact (attempt.sumsInRange (marks.sumsInRange sums) inv.gravity).result (by omega)

theorem QueueEntry.reading_sumsInRange (q : QueueEntry) (station generation due : Nat) :
    (q.reading station generation due).SumsInRange := by
  constructor <;> simp only [QueueEntry.reading, Sums.zero, Within] <;> omega

theorem Groups.write_gravity {g w : Groups} {id : GroupId} {l : List Byte} (h : 0 ≤ g.gate.g0) (e : g.write id l = some w) :
    0 ≤ w.gate.g0 := by
  cases id
  case gate => cases e; exact le_trans (by omega) (clampInt_within (lo := 976000) (hi := 984000) (by omega) _).1
  case tilt | tidr => cases e; exact h
  case wind p => cases p <;> obtain ⟨x, _, rfl⟩ := Option.map_eq_some_iff.mp e <;> exact h
  all_goals obtain ⟨x, _, rfl⟩ := Option.map_eq_some_iff.mp e; exact h

theorem exec_resultsInRange {c : Instr} (inv : s.ResultsInRange) (h : exec c s = .next t) : t.ResultsInRange where
  results o mem x listed := by
    rcases exec_results h mem listed with ⟨o', mem', listed'⟩ | ⟨r1, finishes, rfl⟩
    · exact inv.results o' mem' x listed'
    · exact finishes.inRange inv
  reading r reading := by
    cases exec_reading h reading with
    | marked before marks =>
      obtain ⟨sums, least⟩ := inv.reading _ before
      exact ⟨marks.sumsInRange sums, marks.sameRequest.m ▸ least⟩
    | attempted before marks attempt marks' _ _ =>
      obtain ⟨sums, least⟩ := inv.reading _ before
      have m := ((marks.sameRequest.trans attempt.sameRequest).trans marks'.sameRequest).m
      exact ⟨marks'.sumsInRange (attempt.sumsInRange (marks.sumsInRange sums) inv.gravity), m ▸ least⟩
    | taken station due mem marks =>
      exact ⟨marks.sumsInRange (QueueEntry.reading_sumsInRange ..), marks.sameRequest.m ▸ inv.queue _ mem⟩
  queue q mem := (exec_queue h mem).elim (inv.queue q) fun clamped => clamped.1
  gravity := exec_groups_keep (P := fun g => 0 ≤ g.gate.g0) (by decide) (fun _ _ _ _ now e => Groups.write_gravity now e) h
    inv.gravity inv.image
  image := exec_image_keep (P := fun g => 0 ≤ g.gate.g0) h inv.gravity inv.image

/-- Settles O51: the tickets by the moves of the engine's books, the counts and the bounds by those of the queue, of the
reading and of the results. -/
theorem stepKeepsReadingsInBounds : Obligations.StepKeepsReadingsInBounds := by
  refine ⟨fun s t inv h => ?_, fun s t inv h => ?_, fun s t inv h => ?_⟩
  all_goals rcases step_cases h with ⟨_, e⟩ | ⟨c, rest, _, e⟩
  all_goals
    try
      obtain ⟨a, b, i, cs, e', _, _⟩ := s.byteTime_cases
      rw [e'] at e
      cases e
  · exact inv
  · exact exec_ticketsDistinct (s := { s with pending := rest }) inv e.symm
  · exact ⟨inv.queue, inv.reading, inv.results⟩
  · exact exec_countsAddUp (s := { s with pending := rest }) ⟨inv.queue, inv.reading, inv.results⟩ e.symm
  · exact ⟨inv.results, inv.reading, inv.queue, inv.gravity, inv.image⟩
  · exact exec_resultsInRange (s := { s with pending := rest })
      ⟨inv.results, inv.reading, inv.queue, inv.gravity, inv.image⟩ e.symm

end Sys2Proof.Machine
end

section
/-!
PROOFS. Chapters 8, 9.2 and 7.1: every step keeps the Station Table, the Occupation Table, the archive queue, the staging
buffers and the pending readings agreeing (R92, R119 to R136, R140).
-/

namespace Sys2Proof.Machine

variable {s t : State}

/-! ### Pending readings -/

/-- The occupations of the queued readings and of the one in flight. -/
def Engine.pending (e : Engine) : List Nat := e.queue.map (·.occupation) ++ (e.reading.map (·.occupation)).toList

theorem Engine.pendingAt_eq_count (e : Engine) (n : Nat) : e.pendingAt n = e.pending.count n := by
  have queue : e.queue.countP (fun q => decide (q.occupation = n)) = (e.queue.map (·.occupation)).count n := by
    rw [List.count, List.countP_map]; rfl
  rw [Engine.pendingAt, Engine.pending, List.count_append, queue, Engine.inFlightAt]
  cases e.reading with
  | none => rfl
  | some r => simp [List.count_singleton]

/-- No reading is pending for an occupation (R128). -/
theorem Engine.pendingAt_eq_zero {e : Engine} {n : Nat} : e.pendingAt n = 0 ↔
    (∀ q ∈ e.queue, q.occupation ≠ n) ∧ ∀ r, e.reading = some r → r.occupation ≠ n := by
  rw [Engine.pendingAt_eq_count, List.count_eq_zero]
  simp [Engine.pending]

theorem Engine.pendingAt_congr {e e' : Engine} (queue : e'.queue = e.queue) (reading : e'.reading = e.reading) (n : Nat) :
    e'.pendingAt n = e.pendingAt n := by
  rw [Engine.pendingAt_eq_count, Engine.pendingAt_eq_count, Engine.pending, queue, reading, Engine.pending]

/-! ### What the agreement gives -/

section
variable (inv : s.TablesAgree)
include inv

/-- An occupation number stands for one entry. -/
theorem State.TablesAgree.occupation_unique {o o' : Occupation} (mem : o ∈ s.occupations.entries)
    (mem' : o' ∈ s.occupations.entries) (number : o.number = o'.number) : o = o' :=
  List.inj_on_of_nodup_map inv.occupations.1 mem mem' number

/-- A station number stands for one entry. -/
theorem State.TablesAgree.station_unique {x y : Station} (mem : x ∈ s.stations) (mem' : y ∈ s.stations)
    (number : x.number = y.number) : x = y :=
  List.inj_on_of_nodup_map inv.stations.1 mem mem' number

/-- No reading is pending for an occupation that is not OPEN (R134). -/
theorem State.TablesAgree.pendingAt_of_not_open {o : Occupation} (mem : o ∈ s.occupations.entries) (h : o.state ≠ .isOpen) :
    s.engine.pendingAt o.number = 0 := by
  refine Engine.pendingAt_eq_zero.mpr ⟨fun q queued at_o => ?_, fun r reading at_o => ?_⟩
  · obtain ⟨o', mem', number, isOpen⟩ := inv.queued q queued
    cases inv.occupation_unique mem mem' (by omega)
    exact h isOpen
  · obtain ⟨o', mem', number, isOpen, _⟩ := inv.inFlight r reading
    cases inv.occupation_unique mem mem' (by omega)
    exact h isOpen

/-- The part is not loading while an occupation is in the table (R136). -/
theorem State.TablesAgree.not_loading {o : Occupation} (mem : o ∈ s.occupations.entries) :
    ¬(s.startUp.phase = .load ∨ s.startUp.phase = .mount) := by
  intro loading
  rw [inv.loading loading] at mem
  cases mem

end

theorem State.station_eq_some {n : Nat} {x : Station} (h : s.station n = some x) : x ∈ s.stations ∧ x.number = n :=
  ⟨List.mem_of_find?_eq_some h, by simpa using List.find?_some h⟩

theorem State.station_eq_none {n : Nat} (h : s.station n = none) {x : Station} (mem : x ∈ s.stations) : x.number ≠ n := by
  simpa using List.find?_eq_none.mp h x mem

theorem State.naming_eq_zero {n : Nat} (h : s.naming n = 0) {o : Occupation} (mem : o ∈ s.occupations.entries) :
    o.station ≠ n := by
  simpa using List.countP_eq_zero.mp h o mem

/-! ### Moves of the engine -/

/-- The tables and the buffers stand, and the readings pending are those of before, or fewer. -/
theorem State.TablesAgree.of_engine (inv : s.TablesAgree) (stations : t.stations = s.stations)
    (table : t.occupations = s.occupations) (staged : t.archive.staged = s.archive.staged)
    (loading : t.startUp.phase = .load ∨ t.startUp.phase = .mount → s.occupations.entries = [])
    (places : ∀ o ∈ s.occupations.entries, o.results.length + t.engine.pendingAt o.number ≤ 8)
    (queued : ∀ q ∈ t.engine.queue, ∃ o ∈ s.occupations.entries, o.number = q.occupation ∧ o.state = .isOpen)
    (inFlight : ∀ r, t.engine.reading = some r →
      ∃ o ∈ s.occupations.entries, o.number = r.occupation ∧ o.state = .isOpen ∧ o.station = r.station) :
    t.TablesAgree where
  stations := stations ▸ inv.stations
  occupations := table ▸ inv.occupations
  counter := table ▸ inv.counter
  named := table ▸ stations ▸ inv.named
  opened := table ▸ stations ▸ inv.opened
  queue := table ▸ inv.queue
  staged := table ▸ staged ▸ inv.staged
  closed := table ▸ inv.closed
  places := table ▸ places
  queued := table ▸ queued
  inFlight := table ▸ inFlight
  loading := table ▸ loading

/-- The tables and the buffers stand, and the readings pending are some of those before. -/
theorem State.TablesAgree.of_fewer (inv : s.TablesAgree) (stations : t.stations = s.stations)
    (table : t.occupations = s.occupations) (staged : t.archive.staged = s.archive.staged)
    (loading : t.startUp.phase = .load ∨ t.startUp.phase = .mount → s.occupations.entries = [])
    (queue : t.engine.queue.Sublist s.engine.queue)
    (same : t.engine.reading = none ∨ ∃ r r', s.engine.reading = some r ∧ t.engine.reading = some r' ∧ r.SameRequest r') :
    t.TablesAgree := by
  have fewer : t.engine.pending.Sublist s.engine.pending := by
    refine (queue.map _).append ?_
    rcases same with none | ⟨r, r', before, after, request⟩
    · rw [none]; exact List.nil_sublist _
    · rw [before, after, Option.map_some, Option.map_some, request.occupation]
  refine inv.of_engine stations table staged loading (fun o mem => ?_) (fun x mem => inv.queued x (queue.subset mem)) ?_
  · have places := inv.places o mem
    have count := fewer.count_le o.number
    rw [Engine.pendingAt_eq_count] at *
    omega
  · intro r2 reading
    rcases same with none | ⟨r, r', before, after, request⟩
    · rw [none] at reading; cases reading
    · cases after.symm.trans reading
      rw [request.occupation, request.station]
      exact inv.inFlight r before

/-- The entries after results were appended: the same occupations with the same numbers, stations, states and times. -/
theorem appendResult_exists {x : ReadingResult} {l : List Occupation} {P : Occupation → Prop}
    (keep : ∀ o : Occupation, ∀ rs, P o → P { o with results := rs }) (h : ∃ o ∈ l, P o) : ∃ o ∈ appendResult x l, P o := by
  obtain ⟨o, mem, claim⟩ := h
  refine ⟨_, List.mem_map_of_mem mem, ?_⟩
  split
  · exact keep o _ claim
  · exact claim

theorem appendResult_exists_iff {x : ReadingResult} {l : List Occupation} {P : Occupation → Prop}
    (keep : ∀ o : Occupation, ∀ rs, P { o with results := rs } ↔ P o) : (∃ o ∈ appendResult x l, P o) ↔ ∃ o ∈ l, P o := by
  refine ⟨fun h => ?_, appendResult_exists fun o rs claim => (keep o rs).mpr claim⟩
  obtain ⟨_, listed, claim⟩ := h
  obtain ⟨o, mem, rfl⟩ := List.mem_map.mp listed
  refine ⟨o, mem, ?_⟩
  split at claim
  · exact (keep o _).mp claim
  · exact claim

theorem appendResult_numbers (x : ReadingResult) (l : List Occupation) :
    (appendResult x l).map (·.number) = l.map (·.number) := by
  rw [appendResult, List.map_map]
  exact List.map_congr_left fun o _ => by simp only [Function.comp]; split <;> rfl

/-- A result joins its occupation's list in the place of the reading that ends (R92, R106, R128). -/
theorem State.TablesAgree.of_finished (inv : s.TablesAgree) {r : Reading} {x : ReadingResult}
    (before : s.engine.reading = some r) (at_r : x.occupation = r.occupation)
    (books : t.Books s.engine.queue s.engine.nextTicket none
      { s.occupations with entries := appendResult x s.occupations.entries })
    (stations : t.stations = s.stations) (staged : t.archive.staged = s.archive.staged)
    (loading : t.startUp.phase = .load ∨ t.startUp.phase = .mount → s.occupations.entries = []) : t.TablesAgree := by
  obtain ⟨queue, _, reading, table⟩ := books
  have entries : t.occupations.entries = appendResult x s.occupations.entries := by rw [table]
  have numbers := appendResult_numbers x s.occupations.entries
  constructor
  case stations => exact stations ▸ inv.stations
  case occupations => rw [entries, numbers, appendResult, List.length_map]; exact inv.occupations
  case counter => rw [entries, numbers, table]; exact inv.counter
  case named =>
    rw [entries, stations]
    intro o mem
    obtain ⟨o', mem', _, station, _⟩ := mem_appendResult mem
    rw [station]; exact inv.named o' mem'
  case opened =>
    intro y mem n
    rw [stations] at mem
    rw [entries, appendResult_exists_iff fun _ _ => Iff.rfl]
    exact inv.opened y mem n
  case queue =>
    rw [entries, table]
    refine ⟨inv.queue.1, fun n => ?_⟩
    rw [appendResult_exists_iff fun _ _ => Iff.rfl]
    exact inv.queue.2 n
  case staged =>
    rw [entries, staged]
    refine ⟨inv.staged.1, fun n => ?_⟩
    rw [appendResult_exists_iff fun _ _ => Iff.rfl]
    exact inv.staged.2 n
  case closed =>
    rw [entries]
    intro o mem notOpen
    obtain ⟨o', mem', _, _, state, _, time, _⟩ := mem_appendResult mem
    rw [time]; exact inv.closed o' mem' (state ▸ notOpen)
  case places =>
    rw [entries]
    intro o mem
    obtain ⟨o', mem', number, _, _, _, _, results⟩ := mem_appendResult mem
    have places := inv.places o' mem'
    have pending : s.engine.pendingAt o'.number =
        t.engine.pendingAt o'.number + if r.occupation = o'.number then 1 else 0 := by
      simp [Engine.pendingAt_eq_count, Engine.pending, before, reading, queue, List.count_singleton]
    rw [number]
    rcases results with same | ⟨here, more⟩
    · rw [same]; omega
    · rw [if_pos (by omega)] at pending
      rw [more, List.length_append, List.length_singleton]; omega
  case queued =>
    rw [entries, queue]
    exact fun q mem => appendResult_exists (P := fun o => o.number = q.occupation ∧ o.state = .isOpen)
      (fun _ _ claim => claim) (inv.queued q mem)
  case inFlight =>
    intro r2 e
    rw [reading] at e
    cases e
  case loading => rw [entries]; exact fun phase => by rw [loading phase]; rfl

/-- An accepted request is one more reading pending, where the occupation has a place for it (R92, R93). -/
theorem State.TablesAgree.of_accepted (inv : s.TablesAgree) {o : Occupation} {occ n' m r k : Nat} (p : Port)
    (present : s.occupation occ = some o) (isOpen : o.state = .isOpen)
    (room : o.results.length + s.engine.pendingAt occ ≠ 8)
    (books : t.Books (s.engine.accept p occ n' m r k).queue (s.engine.accept p occ n' m r k).nextTicket s.engine.reading
      s.occupations) (stations : t.stations = s.stations) (staged : t.archive.staged = s.archive.staged)
    (loading : t.startUp.phase = .load ∨ t.startUp.phase = .mount → s.occupations.entries = []) : t.TablesAgree := by
  obtain ⟨queue, _, reading, table⟩ := books
  obtain ⟨mem, number⟩ := State.occupation_eq_some present
  have pending (n : Nat) : t.engine.pendingAt n = s.engine.pendingAt n + if occ = n then 1 else 0 := by
    have more : (s.engine.accept p occ n' m r k).queue.map (·.occupation) = s.engine.queue.map (·.occupation) ++ [occ] := by
      simp [Engine.accept]
    rw [Engine.pendingAt_eq_count, Engine.pendingAt_eq_count, Engine.pending, Engine.pending, reading, queue, more]
    simp only [List.count_append, List.count_singleton, beq_iff_eq]
    omega
  refine inv.of_engine stations table staged loading (fun o' mem' => ?_) (fun q listed => ?_) (reading ▸ inv.inFlight)
  · have places := inv.places o' mem'
    rw [pending]
    split
    next here =>
      cases inv.occupation_unique mem mem' (by omega)
      rw [← number] at room
      omega
    next => omega
  · rw [queue] at listed
    rcases List.mem_append.mp listed with listed | listed
    · exact inv.queued q listed
    · cases List.mem_singleton.mp listed
      exact ⟨o, mem, number, isOpen⟩

/-- The head of the queue in flight is pending as before (R94). -/
theorem State.TablesAgree.of_taken (inv : s.TablesAgree) {q : QueueEntry} {qs : List QueueEntry} {o : Occupation}
    {r : Reading} {due : Nat} (idle : s.engine.reading = none) (head : s.engine.queue = q :: qs)
    (present : s.occupation q.occupation = some o) (marks : (q.reading o.station s.model.generation due).Marks r)
    (books : t.Books qs s.engine.nextTicket (some r) s.occupations) (stations : t.stations = s.stations)
    (staged : t.archive.staged = s.archive.staged)
    (loading : t.startUp.phase = .load ∨ t.startUp.phase = .mount → s.occupations.entries = []) : t.TablesAgree := by
  obtain ⟨queue, _, reading, table⟩ := books
  obtain ⟨mem, number⟩ := State.occupation_eq_some present
  have occupation : r.occupation = q.occupation := marks.sameRequest.occupation
  have station : r.station = o.station := marks.sameRequest.station
  have pending (n : Nat) : t.engine.pendingAt n = s.engine.pendingAt n := by
    simp [Engine.pendingAt_eq_count, Engine.pending, reading, queue, idle, head, occupation, List.count_cons]
  refine inv.of_engine stations table staged loading (fun o' mem' => ?_) (fun x listed => ?_) (fun r' after => ?_)
  · rw [pending]; exact inv.places o' mem'
  · rw [queue] at listed; exact inv.queued x (head ▸ List.mem_cons_of_mem _ listed)
  · cases reading.symm.trans after
    obtain ⟨o', mem', number', isOpen⟩ := inv.queued q (by simp [head])
    cases inv.occupation_unique mem mem' (by omega)
    exact ⟨o, mem, by omega, isOpen, station.symm⟩

/-! ### Moves of the tables -/

/-- The engine stands, and the part is loading only where it was. -/
structure State.Quiet (s t : State) : Prop where
  queue : t.engine.queue = s.engine.queue
  reading : t.engine.reading = s.engine.reading
  loading : t.startUp.phase = .load ∨ t.startUp.phase = .mount → s.startUp.phase = .load ∨ s.startUp.phase = .mount

theorem State.Quiet.pendingAt (quiet : s.Quiet t) (n : Nat) : t.engine.pendingAt n = s.engine.pendingAt n :=
  Engine.pendingAt_congr quiet.queue quiet.reading n

/-- The Occupation Table and the buffers stand; the stations are others that hold the same open occupations. -/
theorem State.TablesAgree.of_stations (inv : s.TablesAgree) (quiet : s.Quiet t) (table : t.occupations = s.occupations)
    (staged : t.archive.staged = s.archive.staged)
    (numbers : (t.stations.map (·.number)).Nodup ∧ t.stations.length ≤ 120)
    (named : ∀ o ∈ s.occupations.entries, ∃ x ∈ t.stations, x.number = o.station)
    (opened : ∀ x ∈ t.stations, ∀ n, x.openOccupation = some n ↔
      ∃ o ∈ s.occupations.entries, o.number = n ∧ o.station = x.number ∧ o.state = .isOpen) : t.TablesAgree where
  stations := numbers
  occupations := table ▸ inv.occupations
  counter := table ▸ inv.counter
  named := table ▸ named
  opened := table ▸ opened
  queue := table ▸ inv.queue
  staged := table ▸ staged ▸ inv.staged
  closed := table ▸ inv.closed
  places o mem := by rw [quiet.pendingAt]; exact inv.places o (table ▸ mem)
  queued := table ▸ quiet.queue ▸ inv.queued
  inFlight := table ▸ quiet.reading ▸ inv.inFlight
  loading phase := table ▸ inv.loading (quiet.loading phase)

theorem mem_updateStation {n : Nat} {f : Station → Station} {l : List Station} {y : Station} :
    y ∈ updateStation n f l ↔ ∃ x ∈ l, (if x.number = n then f x else x) = y := List.mem_map

theorem updateStation_numbers {n : Nat} {f : Station → Station} {l : List Station}
    (keeps : ∀ x ∈ l, x.number = n → (f x).number = n) : (updateStation n f l).map (·.number) = l.map (·.number) := by
  rw [updateStation, List.map_map]
  refine List.map_congr_left fun x mem => ?_
  simp only [Function.comp]
  split
  next here => rw [keeps x mem here, here]
  next => rfl

theorem updateStation_length (n : Nat) (f : Station → Station) (l : List Station) :
    (updateStation n f l).length = l.length := List.length_map ..

/-- Every station is still in the table, under its number. -/
theorem named_updateStation {n m : Nat} {f : Station → Station} {l : List Station}
    (keeps : ∀ x ∈ l, x.number = n → (f x).number = n) (h : ∃ x ∈ l, x.number = m) :
    ∃ x ∈ updateStation n f l, x.number = m := by
  rw [← List.mem_map, updateStation_numbers keeps, List.mem_map]
  exact h

/-- A station entry whose longitude and factor are replaced (R121). -/
theorem State.TablesAgree.of_redefined (inv : s.TablesAgree) (quiet : s.Quiet t) {n : Nat} {old : Station} {longitude : Int}
    {factor : Option Nat} (present : s.station n = some old)
    (stations : t.stations = updateStation n (fun _ => { old with longitude := longitude, factor := factor }) s.stations)
    (table : t.occupations = s.occupations) (staged : t.archive.staged = s.archive.staged) : t.TablesAgree := by
  obtain ⟨mem, number⟩ := State.station_eq_some present
  have keeps : ∀ x ∈ s.stations, x.number = n → ({ old with longitude := longitude, factor := factor } : Station).number = n :=
    fun _ _ _ => number
  refine inv.of_stations quiet table staged ?_ ?_ ?_
  · rw [stations, updateStation_numbers keeps, updateStation_length]; exact inv.stations
  · rw [stations]; exact fun o mem => named_updateStation keeps (inv.named o mem)
  · intro y listed k
    rw [stations] at listed
    obtain ⟨x, mem', rfl⟩ := mem_updateStation.mp listed
    split
    · exact inv.opened old mem k
    · exact inv.opened x mem' k

/-- A new station, that no occupation names yet (R121). -/
theorem State.TablesAgree.of_defined (inv : s.TablesAgree) (quiet : s.Quiet t) {n : Nat} {longitude : Int}
    {factor : Option Nat} (absent : s.station n = none) (room : s.stations.length ≠ 120)
    (stations : t.stations = s.stations ++ [⟨n, longitude, factor, 0, none⟩])
    (table : t.occupations = s.occupations) (staged : t.archive.staged = s.archive.staged) : t.TablesAgree := by
  refine inv.of_stations quiet table staged ⟨?_, ?_⟩ ?_ ?_
  · rw [stations, List.map_append, List.nodup_append]
    refine ⟨inv.stations.1, List.nodup_singleton _, ?_⟩
    intro a mem b new
    obtain ⟨x, mem', rfl⟩ := List.mem_map.mp mem
    cases List.mem_singleton.mp new
    exact State.station_eq_none absent mem'
  · rw [stations, List.length_append, List.length_singleton]
    have := inv.stations.2; omega
  · intro o mem
    obtain ⟨x, mem', number⟩ := inv.named o mem
    exact ⟨x, stations ▸ List.mem_append_left _ mem', number⟩
  · intro y listed k
    rw [stations] at listed
    rcases List.mem_append.mp listed with listed | listed
    · exact inv.opened y listed k
    · cases List.mem_singleton.mp listed
      refine ⟨nofun, fun ⟨o, mem, _, station, _⟩ => ?_⟩
      obtain ⟨x, mem', number⟩ := inv.named o mem
      exact absurd (number.trans station) (State.station_eq_none absent mem')

/-- A station that no occupation names is deleted (R122). -/
theorem State.TablesAgree.of_removed (inv : s.TablesAgree) (quiet : s.Quiet t) {n : Nat} (unnamed : s.naming n = 0)
    (stations : t.stations = s.stations.filter fun x => decide (x.number ≠ n))
    (table : t.occupations = s.occupations) (staged : t.archive.staged = s.archive.staged) : t.TablesAgree := by
  have part : t.stations.Sublist s.stations := stations ▸ List.filter_sublist
  refine inv.of_stations quiet table staged
    ⟨inv.stations.1.sublist (part.map _), part.length_le.trans inv.stations.2⟩ (fun o mem => ?_)
    (fun x listed => inv.opened x (part.subset listed))
  obtain ⟨x, mem', number⟩ := inv.named o mem
  have other : x.number ≠ n := number ▸ State.naming_eq_zero unnamed mem
  exact ⟨x, by rw [stations]; exact List.mem_filter.mpr ⟨mem', by simpa using other⟩, number⟩

/-! ### One entry and the others -/

/-- Some entry other than the one with a number meets a claim. -/
def Others (l : List Occupation) (n : Nat) (P : Occupation → Prop) : Prop := ∃ o ∈ l, o.number ≠ n ∧ P o

/-- The entries with the one of a number changed. -/
def restate (n : Nat) (f : Occupation → Occupation) (l : List Occupation) : List Occupation :=
  l.map fun o => if o.number = n then f o else o

theorem exists_free {l : OccupationTable} {n : Nat} {P : Occupation → Prop} :
    (∃ o ∈ (l.free n).entries, P o) ↔ Others l.entries n P := by
  simp [OccupationTable.mem_free, Others, and_assoc]

section
variable (inv : s.TablesAgree) {o : Occupation} (mem : o ∈ s.occupations.entries)
include inv mem

theorem State.TablesAgree.exists_restate {f : Occupation → Occupation} {P : Occupation → Prop} :
    (∃ x ∈ restate o.number f s.occupations.entries, P x) ↔ P (f o) ∨ Others s.occupations.entries o.number P := by
  constructor
  · rintro ⟨_, changed, claim⟩
    obtain ⟨x, listed, rfl⟩ := List.mem_map.mp changed
    split at claim
    next here => cases inv.occupation_unique listed mem here; exact .inl claim
    next other => exact .inr ⟨x, listed, other, claim⟩
  · rintro (claim | ⟨x, listed, other, claim⟩)
    · exact ⟨_, List.mem_map_of_mem mem, by rwa [if_pos rfl]⟩
    · exact ⟨_, List.mem_map_of_mem listed, by rwa [if_neg other]⟩

theorem State.TablesAgree.forall_restate {f : Occupation → Occupation} {P : Occupation → Prop} (here : P (f o))
    (others : ∀ x ∈ s.occupations.entries, x.number ≠ o.number → P x) : ∀ x ∈ restate o.number f s.occupations.entries, P x := by
  intro _ changed
  obtain ⟨x, listed, rfl⟩ := List.mem_map.mp changed
  split
  next at_o => cases inv.occupation_unique listed mem at_o; exact here
  next other => exact others x listed other

end

theorem restate_numbers {n : Nat} {f : Occupation → Occupation} {l : List Occupation} (keeps : ∀ o, (f o).number = o.number) :
    (restate n f l).map (·.number) = l.map (·.number) := by
  rw [restate, List.map_map]
  exact List.map_congr_left fun o _ => by simp only [Function.comp]; split <;> [exact keeps o; rfl]

/-- A claim that fixes the number speaks of the others where the number is another. -/
theorem others_iff {l : List Occupation} {n k : Nat} {Q : Occupation → Prop} :
    Others l n (fun o => o.number = k ∧ Q o) ↔ (∃ o ∈ l, o.number = k ∧ Q o) ∧ k ≠ n := by
  constructor
  · rintro ⟨o, mem, other, rfl, claim⟩
    exact ⟨⟨o, mem, rfl, claim⟩, other⟩
  · rintro ⟨⟨o, mem, rfl, claim⟩, other⟩
    exact ⟨o, mem, other, rfl, claim⟩

/-- A queued reading's occupation is not the one that has no reading pending. -/
theorem State.TablesAgree.queued_other (inv : s.TablesAgree) {n : Nat} (idle : s.engine.pendingAt n = 0) {q : QueueEntry}
    (listed : q ∈ s.engine.queue) : Others s.occupations.entries n (fun x => x.number = q.occupation ∧ x.state = .isOpen) :=
  others_iff.mpr ⟨inv.queued q listed, (Engine.pendingAt_eq_zero.mp idle).1 q listed⟩

theorem State.TablesAgree.inFlight_other (inv : s.TablesAgree) {n : Nat} (idle : s.engine.pendingAt n = 0) {r : Reading}
    (reading : s.engine.reading = some r) : Others s.occupations.entries n
      (fun x => x.number = r.occupation ∧ x.state = .isOpen ∧ x.station = r.station) :=
  others_iff.mpr ⟨inv.inFlight r reading, (Engine.pendingAt_eq_zero.mp idle).2 r reading⟩

theorem releaseOpen_numbers (o : Occupation) (l : List Station) : (releaseOpen o l).map (·.number) = l.map (·.number) :=
  updateStation_numbers fun x _ here => by split <;> exact here

section
variable (inv : s.TablesAgree) {o : Occupation} (mem : o ∈ s.occupations.entries)
include inv mem

/-- The open occupations of the stations without one that is released (R130, R132). -/
theorem State.TablesAgree.opened_release {y : Station} (listed : y ∈ releaseOpen o s.stations) (k : Nat) : y.openOccupation = some k ↔
      Others s.occupations.entries o.number (fun x => x.number = k ∧ x.station = y.number ∧ x.state = .isOpen) := by
  rw [others_iff]
  obtain ⟨x, mem', rfl⟩ := mem_updateStation.mp listed
  have opened := inv.opened x mem' k
  by_cases held : x.number = o.station ∧ x.openOccupation = some o.number
  · rw [if_pos held.1, if_pos held.2]
    refine ⟨nofun, fun ⟨claim, other⟩ => absurd ?_ other⟩
    exact Option.some.inj ((opened.mpr claim).symm.trans held.2)
  · have same : (if x.number = o.station then
        (if x.openOccupation = some o.number then { x with openOccupation := none } else x) else x) = x := by
      split
      next here => rw [if_neg fun open_o => held ⟨here, open_o⟩]
      next => rfl
    rw [same]
    refine ⟨fun some_k => ⟨opened.mp some_k, fun at_o => held ?_⟩, fun claim => opened.mpr claim.1⟩
    obtain ⟨o', mem2, number, station, _⟩ := opened.mp some_k
    cases inv.occupation_unique mem2 mem (number.trans at_o)
    exact ⟨station.symm, at_o ▸ some_k⟩

/-- An occupation that is not OPEN is no station's open one (R119). -/
theorem State.TablesAgree.opened_other {y : Station} (listed : y ∈ s.stations) (notOpen : o.state ≠ .isOpen) (k : Nat) :
    y.openOccupation = some k ↔
      Others s.occupations.entries o.number (fun x => x.number = k ∧ x.station = y.number ∧ x.state = .isOpen) := by
  rw [others_iff]
  refine ⟨fun some_k => ⟨(inv.opened y listed k).mp some_k, fun at_o => ?_⟩, fun claim => (inv.opened y listed k).mpr claim.1⟩
  obtain ⟨o', mem2, number, _, isOpen⟩ := (inv.opened y listed k).mp some_k
  cases inv.occupation_unique mem2 mem (number.trans at_o)
  exact notOpen isOpen

/-- A buffer holds no occupation but a STAGED one. -/
theorem State.TablesAgree.staged_other (notStaged : o.state ≠ .staged) (n : Nat) (held : n ∈ s.archive.staged) :
    n ≠ o.number := by
  rintro rfl
  obtain ⟨x, listed, number, staged⟩ := (inv.staged.2 _).mp held
  cases inv.occupation_unique listed mem number
  exact notStaged staged

theorem State.TablesAgree.queue_other (notClosed : o.state ≠ .closed) (n : Nat) (held : n ∈ s.occupations.archiveQueue) :
    n ≠ o.number := by
  rintro rfl
  obtain ⟨x, listed, number, closed⟩ := (inv.queue.2 _).mp held
  cases inv.occupation_unique listed mem number
  exact notClosed closed

/-- An entry with no reading pending is freed (R130, R132, R144). -/
theorem State.TablesAgree.of_free (quiet : s.Quiet t) (idle : s.engine.pendingAt o.number = 0)
    (table : t.occupations = s.occupations.free o.number)
    (numbers : t.stations.map (·.number) = s.stations.map (·.number))
    (opened : ∀ y ∈ t.stations, ∀ k, y.openOccupation = some k ↔
      Others s.occupations.entries o.number (fun x => x.number = k ∧ x.station = y.number ∧ x.state = .isOpen))
    (staged : t.archive.staged.Nodup ∧ ∀ n, n ∈ t.archive.staged ↔ n ∈ s.archive.staged ∧ n ≠ o.number) : t.TablesAgree := by
  have part : t.occupations.entries.Sublist s.occupations.entries := by rw [table]; exact List.filter_sublist
  have queue : t.occupations.archiveQueue = s.occupations.archiveQueue.filter fun q => decide (q ≠ o.number) := by rw [table]; rfl
  have counter : t.occupations.counter = s.occupations.counter := by rw [table]; rfl
  have exists_t {P : Occupation → Prop} : (∃ x ∈ t.occupations.entries, P x) ↔ Others s.occupations.entries o.number P := by
    rw [table]; exact exists_free
  have length : t.stations.length = s.stations.length := by simpa using congrArg List.length numbers
  constructor
  case stations => rw [numbers, length]; exact inv.stations
  case occupations =>
    exact ⟨inv.occupations.1.sublist (part.map _), part.length_le.trans inv.occupations.2⟩
  case counter =>
    rw [counter]; exact ⟨fun held => inv.counter.1 ((part.map _).subset held), inv.counter.2⟩
  case named =>
    intro x listed
    rw [← List.mem_map, numbers, List.mem_map]
    exact inv.named x (part.subset listed)
  case opened => intro y listed k; rw [exists_t]; exact opened y listed k
  case queue =>
    rw [queue]
    refine ⟨inv.queue.1.sublist List.filter_sublist, fun n => ?_⟩
    rw [exists_t, others_iff, ← inv.queue.2 n]
    simp
  case staged =>
    refine ⟨staged.1, fun n => ?_⟩
    rw [exists_t, others_iff, ← inv.staged.2 n]
    exact staged.2 n
  case closed => exact fun x listed => inv.closed x (part.subset listed)
  case places => intro x listed; rw [quiet.pendingAt]; exact inv.places x (part.subset listed)
  case queued => intro q listed; rw [exists_t]; exact inv.queued_other idle (quiet.queue ▸ listed)
  case inFlight => intro r reading; rw [exists_t]; exact inv.inFlight_other idle (quiet.reading ▸ reading)
  case loading => exact fun phase => absurd (quiet.loading phase) (inv.not_loading mem)

/-- An entry with no reading pending changes its state, and gets a close time at the latest (R130, R131, R140). -/
theorem State.TablesAgree.of_restated (quiet : s.Quiet t) (idle : s.engine.pendingAt o.number = 0)
    {f : Occupation → Occupation}
    (keeps : ∀ x, (f x).number = x.number ∧ (f x).station = x.station ∧ (f x).results = x.results)
    (notOpen : (f o).state ≠ .isOpen) (time : (f o).closeTime.isSome = true)
    (entries : t.occupations.entries = restate o.number f s.occupations.entries)
    (counter : t.occupations.counter = s.occupations.counter)
    (numbers : t.stations.map (·.number) = s.stations.map (·.number))
    (opened : ∀ y ∈ t.stations, ∀ k, y.openOccupation = some k ↔
      Others s.occupations.entries o.number (fun x => x.number = k ∧ x.station = y.number ∧ x.state = .isOpen))
    (queue : t.occupations.archiveQueue.Nodup ∧ ∀ n, n ∈ t.occupations.archiveQueue ↔
      (o.number = n ∧ (f o).state = .closed) ∨ n ∈ s.occupations.archiveQueue ∧ n ≠ o.number)
    (staged : t.archive.staged.Nodup ∧ ∀ n, n ∈ t.archive.staged ↔
      (o.number = n ∧ (f o).state = .staged) ∨ n ∈ s.archive.staged ∧ n ≠ o.number) : t.TablesAgree := by
  have entryNumbers : t.occupations.entries.map (·.number) = s.occupations.entries.map (·.number) := by
    rw [entries]; exact restate_numbers fun x => (keeps x).1
  have length : t.stations.length = s.stations.length := by simpa using congrArg List.length numbers
  have exists_t {P : Occupation → Prop} :
      (∃ x ∈ t.occupations.entries, P x) ↔ P (f o) ∨ Others s.occupations.entries o.number P := by
    rw [entries]; exact inv.exists_restate mem
  obtain ⟨number, station, results⟩ := keeps o
  constructor
  case stations => rw [numbers, length]; exact inv.stations
  case occupations => rw [entryNumbers, entries, restate, List.length_map]; exact inv.occupations
  case counter => rw [entryNumbers, counter]; exact inv.counter
  case named =>
    have named_s (m : Nat) (h : ∃ x ∈ s.stations, x.number = m) : ∃ x ∈ t.stations, x.number = m := by
      rw [← List.mem_map, numbers, List.mem_map]; exact h
    rw [entries]
    exact inv.forall_restate mem (station ▸ named_s _ (inv.named o mem)) fun x listed _ => named_s _ (inv.named x listed)
  case opened =>
    intro y listed k
    rw [exists_t, opened y listed k]
    exact ⟨.inr, fun h => h.resolve_left fun here => notOpen here.2.2⟩
  case queue =>
    refine ⟨queue.1, fun n => ?_⟩
    rw [exists_t, others_iff, ← inv.queue.2 n, number]
    exact queue.2 n
  case staged =>
    refine ⟨staged.1, fun n => ?_⟩
    rw [exists_t, others_iff, ← inv.staged.2 n, number]
    exact staged.2 n
  case closed => rw [entries]; exact inv.forall_restate mem (fun _ => time) fun x listed _ => inv.closed x listed
  case places =>
    rw [entries]
    refine inv.forall_restate mem ?_ fun x listed _ => ?_
    · rw [quiet.pendingAt, results, number]; exact inv.places o mem
    · rw [quiet.pendingAt]; exact inv.places x listed
  case queued => intro q listed; rw [exists_t]; exact .inr (inv.queued_other idle (quiet.queue ▸ listed))
  case inFlight => intro r reading; rw [exists_t]; exact .inr (inv.inFlight_other idle (quiet.reading ▸ reading))
  case loading => exact fun phase => absurd (quiet.loading phase) (inv.not_loading mem)

end

/-! ### The staging buffers -/

theorem Archive.staged_eq (a : Archive) : a.staged = a.buffer0.occupation.toList ++ a.buffer1.occupation.toList := by
  rw [Archive.staged, List.filterMap_cons, List.filterMap_cons, List.filterMap_nil]
  cases a.buffer0.occupation <;> cases a.buffer1.occupation <;> rfl

theorem Archive.staged_load {a : Archive} {b : BufferId} (h : a.freeBuffer = some b) (r : StagedRecord) :
    (a.setBuffer b (.loaded r)).staged.Perm (r.occupation :: a.staged) := by
  have free := Archive.freeBuffer_eq_some h
  rw [Archive.staged_eq, Archive.staged_eq]
  cases b
  case b0 =>
    have free : a.buffer0 = .free := free
    rw [free]; exact List.Perm.refl _
  case b1 =>
    have free : a.buffer1 = .free := free
    rw [free, show (StagingBuffer.free.occupation).toList = [] from rfl, List.append_nil]
    exact List.perm_append_singleton ..

theorem Archive.staged_unload {a : Archive} {b : BufferId} {r : StagedRecord} (h : a.buffer b = .programming r) :
    a.staged.Perm (r.occupation :: (a.setBuffer b .free).staged) := by
  rw [Archive.staged_eq, Archive.staged_eq]
  cases b
  case b0 =>
    have held : a.buffer0 = .programming r := h
    rw [held]; exact List.Perm.refl _
  case b1 =>
    have held : a.buffer1 = .programming r := h
    rw [held, show ((a.setBuffer .b1 .free).buffer1.occupation).toList = [] from rfl, List.append_nil]
    exact List.perm_append_singleton ..

/-- The buffers hold nothing of an occupation that is not STAGED. -/
theorem State.TablesAgree.staged_without (inv : s.TablesAgree) {o : Occupation} (mem : o ∈ s.occupations.entries) (notStaged : o.state ≠ .staged)
    (staged : t.archive.staged = s.archive.staged) :
    t.archive.staged.Nodup ∧ ∀ n, n ∈ t.archive.staged ↔ n ∈ s.archive.staged ∧ n ≠ o.number := by
  rw [staged]
  exact ⟨inv.staged.1, fun n => ⟨fun held => ⟨held, inv.staged_other mem notStaged n held⟩, fun held => held.1⟩⟩

section
variable (inv : s.TablesAgree) (quiet : s.Quiet t) {o : Occupation}
include inv quiet

theorem State.TablesAgree.of_emptied (present : s.occupation o.number = some o) (isOpen : o.state = .isOpen)
    (idle : s.engine.pendingAt o.number = 0) (stations : t.stations = releaseOpen o s.stations)
    (table : t.occupations = s.occupations.free o.number) (staged : t.archive.staged = s.archive.staged) :
    t.TablesAgree := by
  obtain ⟨mem, _⟩ := State.occupation_eq_some present
  exact inv.of_free mem quiet idle table (stations ▸ releaseOpen_numbers ..)
    (fun y listed k => inv.opened_release mem (stations ▸ listed) k)
    (inv.staged_without mem (by simp [isOpen]) staged)

theorem State.TablesAgree.of_discarded (present : s.occupation o.number = some o) (closed : o.state = .closed)
    (stations : t.stations = s.stations) (table : t.occupations = s.occupations.free o.number)
    (staged : t.archive.staged = s.archive.staged) : t.TablesAgree := by
  obtain ⟨mem, _⟩ := State.occupation_eq_some present
  have notOpen : o.state ≠ .isOpen := by simp [closed]
  exact inv.of_free mem quiet (inv.pendingAt_of_not_open mem notOpen) table (by rw [stations])
    (fun y listed k => inv.opened_other mem (stations ▸ listed) notOpen k)
    (inv.staged_without mem (by simp [closed]) staged)

theorem State.TablesAgree.of_closed {time : Nat} (present : s.occupation o.number = some o) (isOpen : o.state = .isOpen)
    (idle : s.engine.pendingAt o.number = 0) (stations : t.stations = releaseOpen o s.stations)
    (table : t.occupations = s.occupations.closeAt o.number time) (staged : t.archive.staged = s.archive.staged) :
    t.TablesAgree := by
  obtain ⟨mem, _⟩ := State.occupation_eq_some present
  have notQueued := inv.queue_other mem (by simp [isOpen])
  refine inv.of_restated mem quiet idle (f := fun x => { x with state := .closed, closeTime := some time })
    (fun _ => ⟨rfl, rfl, rfl⟩) nofun rfl (by rw [table]; rfl) (by rw [table]; rfl) (stations ▸ releaseOpen_numbers ..)
    (fun y listed k => inv.opened_release mem (stations ▸ listed) k) ?_ ?_
  · have queue : t.occupations.archiveQueue = s.occupations.archiveQueue ++ [o.number] := by rw [table]; rfl
    rw [queue]
    refine ⟨List.nodup_append.mpr ⟨inv.queue.1, List.nodup_singleton _, fun a held b new => ?_⟩, fun n => ?_⟩
    · rw [List.mem_singleton.mp new]; exact notQueued a held
    · rw [List.mem_append, List.mem_singleton]
      constructor
      · rintro (held | rfl)
        · exact .inr ⟨held, notQueued n held⟩
        · exact .inl ⟨rfl, rfl⟩
      · rintro (⟨rfl, _⟩ | ⟨held, _⟩)
        · exact .inr rfl
        · exact .inl held
  · obtain ⟨nodup, same⟩ := inv.staged_without mem (by simp [isOpen]) staged
    exact ⟨nodup, fun n => by rw [same n]; simp⟩

theorem State.TablesAgree.of_staging {n : Nat} {q : List Nat} {b : BufferId} {st : Station} {c : Nat}
    (queue : s.occupations.archiveQueue = n :: q) (free : s.archive.freeBuffer = some b) (present : s.occupation n = some o)
    (stations : t.stations = s.stations) (table : t.occupations = s.occupations.stageHead n)
    (staged : t.archive.staged = (s.archive.setBuffer b (.loaded (stagedRecord o st c))).staged) : t.TablesAgree := by
  obtain ⟨mem, rfl⟩ := State.occupation_eq_some present
  have closed : o.state = .closed := by
    obtain ⟨o', mem', number, closed⟩ := (inv.queue.2 o.number).mp (by simp [queue])
    cases inv.occupation_unique mem' mem number
    exact closed
  have notOpen : o.state ≠ .isOpen := by simp [closed]
  have notStaged := inv.staged_other mem (by simp [closed])
  have perm : t.archive.staged.Perm (o.number :: s.archive.staged) := staged ▸ Archive.staged_load free _
  have nodup := inv.queue.1
  rw [queue, List.nodup_cons] at nodup
  refine inv.of_restated mem quiet (inv.pendingAt_of_not_open mem notOpen) (f := fun x => { x with state := .staged })
    (fun _ => ⟨rfl, rfl, rfl⟩) nofun (inv.closed o mem notOpen) (by rw [table]; rfl) (by rw [table]; rfl)
    (by rw [stations]) (fun y listed k => inv.opened_other mem (stations ▸ listed) notOpen k) ?_ ?_
  · have tail : t.occupations.archiveQueue = q := by rw [table, OccupationTable.stageHead, queue]; rfl
    rw [tail, queue]
    refine ⟨nodup.2, fun n => ⟨fun held => .inr ⟨List.mem_cons_of_mem _ held, fun e => nodup.1 (e ▸ held)⟩, ?_⟩⟩
    rintro (⟨_, e⟩ | ⟨held, other⟩)
    · cases e
    · exact (List.mem_cons.mp held).resolve_left other
  · refine ⟨perm.nodup_iff.mpr (List.nodup_cons.mpr ⟨fun held => notStaged _ held rfl, inv.staged.1⟩), fun n => ?_⟩
    rw [perm.mem_iff, List.mem_cons]
    constructor
    · rintro (rfl | held)
      · exact .inl ⟨rfl, rfl⟩
      · exact .inr ⟨held, notStaged n held⟩
    · rintro (⟨rfl, _⟩ | ⟨held, _⟩)
      · exact .inl rfl
      · exact .inr held

theorem State.TablesAgree.of_committed {b : BufferId} {r : StagedRecord}
    (buffer : s.archive.programmingBuffer = some (b, r)) (stations : t.stations = s.stations)
    (table : t.occupations = s.occupations.free r.occupation)
    (staged : t.archive.staged = (s.archive.setBuffer b .free).staged) : t.TablesAgree := by
  have perm : s.archive.staged.Perm (r.occupation :: t.archive.staged) :=
    staged ▸ Archive.staged_unload (Archive.programmingBuffer_eq_some buffer)
  obtain ⟨o, mem, number, inBuffer⟩ := (inv.staged.2 r.occupation).mp (perm.mem_iff.mpr (by simp))
  rw [← number] at perm table
  have notOpen : o.state ≠ .isOpen := by simp [inBuffer]
  have nodup := List.nodup_cons.mp (perm.nodup_iff.mp inv.staged.1)
  refine inv.of_free mem quiet (inv.pendingAt_of_not_open mem notOpen) table (by rw [stations])
    (fun y listed k => inv.opened_other mem (stations ▸ listed) notOpen k) ⟨nodup.2, fun n => ?_⟩
  rw [perm.mem_iff, List.mem_cons]
  constructor
  · exact fun held => ⟨.inr held, fun e => nodup.1 (e ▸ held)⟩
  · exact fun ⟨held, other⟩ => held.resolve_left other

end

/-! ### A new occupation -/

/-- The counter advances to a number that no entry holds (R125). -/
theorem OccupationTable.openAt_counter (l : OccupationTable) (room : l.entries.length ≤ 12) (n : Nat) (stamp : Option Nat) :
    FirstFree (cycle 4294967295) ((l.openAt n stamp).entries.map (·.number)) l.counter (l.openAt n stamp).counter := by
  have free := cycle_firstFree (m := 4294967295) (v := l.counter) (held := (l.openAt n stamp).entries.map (·.number))
    (by simp [OccupationTable.openAt]; omega)
  rwa [List.length_map] at free

theorem State.TablesAgree.of_opened (inv : s.TablesAgree) (quiet : s.Quiet t) {n : Nat} {e : Station} {count : Nat}
    (ready : s.startUp.phase = .ready) (present : s.station n = some e) (none : e.openOccupation = none)
    (room : s.occupations.entries.length ≠ 12)
    (stations : t.stations =
      updateStation n (fun x => { x with count := count, openOccupation := some s.occupations.counter }) s.stations)
    (table : t.occupations = s.occupations.openAt n s.clock.openStamp) (staged : t.archive.staged = s.archive.staged) :
    t.TablesAgree := by
  obtain ⟨memE, numberE⟩ := State.station_eq_some present
  obtain ⟨fresh, counterRange⟩ := inv.counter
  have entries : t.occupations.entries =
      s.occupations.entries ++ [⟨s.occupations.counter, n, .isOpen, s.clock.openStamp, Option.none, []⟩] := by rw [table]; rfl
  have queue : t.occupations.archiveQueue = s.occupations.archiveQueue := by rw [table]; rfl
  have keeps : ∀ x ∈ s.stations, x.number = n →
      ({ x with count := count, openOccupation := some s.occupations.counter } : Station).number = n := fun _ _ here => here
  have old {P : Occupation → Prop} (other : ¬P ⟨s.occupations.counter, n, .isOpen, s.clock.openStamp, Option.none, []⟩) :
      (∃ o ∈ t.occupations.entries, P o) ↔ ∃ o ∈ s.occupations.entries, P o := by
    rw [entries]
    simp only [List.mem_append, List.mem_singleton, or_and_right, exists_or, exists_eq_left, other, or_false]
  have still {P : Occupation → Prop} (h : ∃ o ∈ s.occupations.entries, P o) : ∃ o ∈ t.occupations.entries, P o := by
    obtain ⟨o, mem, claim⟩ := h
    exact ⟨o, entries ▸ List.mem_append_left _ mem, claim⟩
  have notNumber {o : Occupation} (mem : o ∈ s.occupations.entries) : o.number ≠ s.occupations.counter :=
    fun e => fresh (e ▸ List.mem_map_of_mem mem)
  have few := inv.occupations.2
  constructor
  case stations => rw [stations, updateStation_numbers keeps, updateStation_length]; exact inv.stations
  case occupations =>
    rw [entries, List.map_append, List.nodup_append, List.length_append]
    refine ⟨⟨inv.occupations.1, List.nodup_singleton _, fun a held b new => ?_⟩, by simp only [List.length_singleton]; omega⟩
    cases List.mem_singleton.mp new
    rintro rfl
    exact fresh held
  case counter =>
    have free := s.occupations.openAt_counter few n s.clock.openStamp
    rw [← table] at free
    exact ⟨free.1, free.range (by omega) counterRange.2⟩
  case named =>
    rw [entries, stations]
    intro o mem
    rcases List.mem_append.mp mem with mem | mem
    · exact named_updateStation keeps (inv.named o mem)
    · cases List.mem_singleton.mp mem; exact named_updateStation keeps ⟨e, memE, numberE⟩
  case opened =>
    intro y listed k
    rw [stations] at listed
    obtain ⟨x, mem, rfl⟩ := mem_updateStation.mp listed
    split
    next here =>
      obtain rfl := inv.station_unique memE mem (by omega)
      constructor
      · intro some_k
        cases some_k
        exact ⟨_, by rw [entries]; exact List.mem_append_right _ (List.mem_singleton.mpr rfl), rfl, here.symm, rfl⟩
      · rintro ⟨o, mem2, number, station, isOpen⟩
        rw [entries] at mem2
        rcases List.mem_append.mp mem2 with mem2 | mem2
        · have := (inv.opened e mem o.number).mpr ⟨o, mem2, rfl, station, isOpen⟩
          rw [none] at this; cases this
        · cases List.mem_singleton.mp mem2; exact congrArg some number
    next other => rw [old fun claim => other claim.2.1.symm]; exact inv.opened x mem k
  case queue =>
    rw [queue]
    refine ⟨inv.queue.1, fun k => ?_⟩
    rw [old fun claim => OccState.noConfusion claim.2]
    exact inv.queue.2 k
  case staged =>
    rw [staged]
    refine ⟨inv.staged.1, fun k => ?_⟩
    rw [old fun claim => OccState.noConfusion claim.2]
    exact inv.staged.2 k
  case closed =>
    rw [entries]
    intro o mem notOpen
    rcases List.mem_append.mp mem with mem | mem
    · exact inv.closed o mem notOpen
    · cases List.mem_singleton.mp mem; exact absurd rfl notOpen
  case places =>
    rw [entries]
    intro o mem
    rw [quiet.pendingAt]
    rcases List.mem_append.mp mem with mem | mem
    · exact inv.places o mem
    · cases List.mem_singleton.mp mem
      have idle : s.engine.pendingAt s.occupations.counter = 0 := by
        refine Engine.pendingAt_eq_zero.mpr ⟨fun q listed at_new => ?_, fun r reading at_new => ?_⟩
        · obtain ⟨o, mem, number, _⟩ := inv.queued q listed
          exact notNumber mem (number.trans at_new)
        · obtain ⟨o, mem, number, _⟩ := inv.inFlight r reading
          exact notNumber mem (number.trans at_new)
      rw [idle]; simp
  case queued => rw [quiet.queue]; exact fun q listed => still (inv.queued q listed)
  case inFlight => rw [quiet.reading]; exact fun r reading => still (inv.inFlight r reading)
  case loading =>
    intro phase
    have before := quiet.loading phase
    rw [ready] at before
    exact absurd before (by decide)

/-! ### The mount -/

theorem foldl_pick {α : Type} {f : Option α → α → Option α} (pick : ∀ best x y, f best x = some y → y = x ∨ best = some y) :
    ∀ (l : List α) (best : Option α) (y : α), l.foldl f best = some y → y ∈ l ∨ best = some y
  | [], _, _, e => .inr e
  | x :: l, best, y, e => by
    rcases foldl_pick pick l _ y e with mem | e
    · exact .inl (List.mem_cons_of_mem _ mem)
    · rcases pick best x y e with rfl | e
      · exact .inl (List.mem_cons_self ..)
      · exact .inr e

theorem preferredPage_mem {better : Nat → Nat → Bool} {l : List (Nat × Nat)} {x : Nat × Nat}
    (h : preferredPage better l = some x) : x ∈ l := by
  refine (foldl_pick (fun best x y e => ?_) l none x h).resolve_right nofun
  split at e
  · cases e; exact .inl rfl
  · split at e
    · cases e; exact .inl rfl
    · exact .inr e

theorem Flash.validPages_mem {f : Flash} {p n : Nat} (h : (p, n) ∈ f.validPages) :
    f.condition p = .valid ∧ n = u32At (f.pageContents p) 0 := by
  obtain ⟨q, mem, e⟩ := List.mem_map.mp h
  cases e
  exact ⟨by simpa using (List.mem_filter.mp mem).2, rfl⟩

theorem mountCounter_range (f : Flash) : 1 ≤ mountCounter f.newest ∧ mountCounter f.newest ≤ 4294967295 := by
  unfold mountCounter
  split
  · decide
  next p n newest =>
    obtain ⟨_, rfl⟩ := Flash.validPages_mem (preferredPage_mem newest)
    exact ⟨cycle_pos .., cycle_le (by omega) (Nat.le_of_lt_succ (u32At_lt ..))⟩

theorem State.TablesAgree.of_mounted (inv : s.TablesAgree) (quiet : s.Quiet t) (mount : s.startUp.phase = .mount)
    (stations : t.stations = s.stations)
    (table : t.occupations = { s.occupations with counter := mountCounter s.flash.newest })
    (staged : t.archive.staged = s.archive.staged) : t.TablesAgree := by
  have empty := inv.loading (.inr mount)
  have entries : t.occupations.entries = s.occupations.entries := by rw [table]
  have queue : t.occupations.archiveQueue = s.occupations.archiveQueue := by rw [table]
  have counter : t.occupations.counter = mountCounter s.flash.newest := by rw [table]
  constructor
  case stations => exact stations ▸ inv.stations
  case occupations => exact entries ▸ inv.occupations
  case counter => rw [entries, empty, counter]; exact ⟨nofun, mountCounter_range s.flash⟩
  case named => exact entries ▸ stations ▸ inv.named
  case opened => exact entries ▸ stations ▸ inv.opened
  case queue => exact entries ▸ queue ▸ inv.queue
  case staged => exact entries ▸ staged ▸ inv.staged
  case closed => exact entries ▸ inv.closed
  case places => intro o mem; rw [quiet.pendingAt]; exact inv.places o (entries ▸ mem)
  case queued => exact entries ▸ quiet.queue ▸ inv.queued
  case inFlight => exact entries ▸ quiet.reading ▸ inv.inFlight
  case loading => exact fun _ => entries.trans empty

/-! ### Every command -/

theorem exec_loading {c : Instr} (h : exec c s = .next t) (noReset : ¬Resets c)
    (loading : t.startUp.phase = .load ∨ t.startUp.phase = .mount) : s.startUp.phase = .load ∨ s.startUp.phase = .mount := by
  generalize e : t.startUp.phase = p at loading
  have moves := e ▸ exec_phaseMoves h
  cases moves with
  | kept => exact loading
  | reset resets => exact absurd resets noReset
  | loaded _ load => exact .inl load
  | mounted | restarting | restarted => simp at loading

theorem exec_tables {c : Instr} (inv : s.TablesAgree) (h : exec c s = .next t) (noReset : ¬Resets c)
    (rest : takesPart c = false) : t.TablesAgree := by
  have handed := exec_handed h rest
  have quiet : s.Quiet t := ⟨handed.queue, handed.reading, exec_loading h noReset⟩
  cases exec_tableMoves h noReset rest with
  | kept stations table staged =>
    exact inv.of_stations quiet table staged (stations ▸ inv.stations) (stations ▸ inv.named) (stations ▸ inv.opened)
  | redefined _ _ present stations table staged => exact inv.of_redefined quiet present stations table staged
  | defined _ _ absent room stations table staged => exact inv.of_defined quiet absent room stations table staged
  | removed unnamed stations table staged => exact inv.of_removed quiet unnamed stations table staged
  | opened _ ready present none room stations table staged =>
    exact inv.of_opened quiet ready present none room stations table staged
  | emptied present isOpen idle stations table staged => exact inv.of_emptied quiet present isOpen idle stations table staged
  | closed present isOpen idle stations table staged => exact inv.of_closed quiet present isOpen idle stations table staged
  | discarded present closed stations table staged => exact inv.of_discarded quiet present closed stations table staged
  | staging _ queue free present stations table staged => exact inv.of_staging quiet queue free present stations table staged
  | committed buffer stations table staged => exact inv.of_committed quiet buffer stations table staged
  | mounted mount stations table staged => exact inv.of_mounted quiet mount stations table staged

/-- Empty tables agree. -/
theorem State.tablesAgree_of_empty (stations : t.stations = []) (archive : t.archive = .reset)
    (books : t.Books [] 1 none ⟨[], 1, []⟩) : t.TablesAgree := by
  obtain ⟨queue, _, reading, table⟩ := books
  constructor <;> simp [stations, archive, queue, reading, table, Archive.reset, Archive.staged_eq, StagingBuffer.occupation]

theorem State.reset_tablesAgree {cause : ResetCause} {f : Flash} {i : Incoming} {l : List Instr} :
    (State.afterReset cause f i l).TablesAgree := State.tablesAgree_of_empty rfl rfl ⟨rfl, rfl, rfl, rfl⟩

/-- The commands that take part in a reading change no station, no buffer and no model, the resets apart. -/
theorem takesPart_footprint {c : Instr} (part : takesPart c = true) (noReset : ¬Resets c) :
    Block.stations ∉ footprint c ∧ Block.archive ∉ footprint c ∧ Block.model ∉ footprint c := by
  cases c
  case powerReset m => exact absurd ⟨m, .inl rfl⟩ noReset
  case lineReset m => exact absurd ⟨m, .inr rfl⟩ noReset
  all_goals simp [takesPart, footprint] at part ⊢

theorem exec_tablesAgree {c : Instr} (inv : s.TablesAgree) (h : exec c s = .next t) : t.TablesAgree := by
  by_cases resets : Resets c
  · obtain ⟨m, rfl | rfl⟩ := resets <;> cases h <;> exact State.reset_tablesAgree
  by_cases rest : takesPart c = false
  · exact exec_tables inv h resets rest
  have part : takesPart c = true := by simpa using rest
  have frame := exec_agreesOff h
  obtain ⟨stationsApart, archiveApart, _⟩ := takesPart_footprint part resets
  have stations : t.stations = s.stations := frame.stations stationsApart
  have staged : t.archive.staged = s.archive.staged := congrArg Archive.staged (frame.archive archiveApart)
  have loading : t.startUp.phase = .load ∨ t.startUp.phase = .mount → s.occupations.entries = [] :=
    fun phase => inv.loading (exec_loading h resets phase)
  cases exec_engineMoves h (.inl part) with
  | kept books =>
    obtain ⟨queue, _, reading, table⟩ := books
    refine inv.of_fewer stations table staged loading (queue ▸ .refl _) ?_
    cases idle : s.engine.reading with
    | none => exact .inl (reading.trans idle)
    | some r => exact .inr ⟨r, r, rfl, reading.trans idle, .refl r⟩
  | marked before marks _ books =>
    obtain ⟨queue, _, reading, table⟩ := books
    exact inv.of_fewer stations table staged loading (queue ▸ .refl _) (.inr ⟨_, _, before, reading, marks.sameRequest⟩)
  | attempted before _ marks attempt marks' _ _ books =>
    obtain ⟨queue, _, reading, table⟩ := books
    exact inv.of_fewer stations table staged loading (queue ▸ .refl _)
      (.inr ⟨_, _, before, reading, (marks.sameRequest.trans attempt.sameRequest).trans marks'.sameRequest⟩)
  | ended _ books =>
    obtain ⟨queue, _, reading, table⟩ := books
    exact inv.of_fewer stations table staged loading (queue ▸ .refl _) (.inl reading)
  | @finished r r0 r1 before marks attempt _ books =>
    have at_r : r1.occupation = r.occupation := by
      rcases attempt with rfl | attempt
      · exact marks.sameRequest.occupation
      · exact (marks.sameRequest.trans attempt.sameRequest).occupation
    exact inv.of_finished (x := r1.result) before at_r books stations staged loading
  | accepted p _ _ present isOpen _ places _ books =>
    exact inv.of_accepted p present isOpen places books stations staged loading
  | taken _ idle queue present marks _ books =>
    exact inv.of_taken idle queue present marks books stations staged loading
  | cancelled q books =>
    obtain ⟨queue, _, reading, table⟩ := books
    refine inv.of_fewer stations table staged loading (queue ▸ List.filter_sublist) ?_
    cases idle : s.engine.reading with
    | none => exact .inl (reading.trans idle)
    | some r => exact .inr ⟨r, r, rfl, reading.trans idle, .refl r⟩
  | restarted books =>
    obtain ⟨queue, _, reading, table⟩ := books
    exact inv.of_fewer stations table staged loading (queue ▸ List.nil_sublist _) (.inl reading)
  | reset stations archive books => exact State.tablesAgree_of_empty stations archive books

/-- Settles O54: the engine's part by the moves of its books, every other command by the moves of the tables. -/
theorem stepKeepsTablesAgree : Obligations.StepKeepsTablesAgree := by
  intro s t inv h
  rcases step_cases h with ⟨_, e⟩ | ⟨c, rest, _, e⟩
  · obtain ⟨a, b, i, cs, e', _, _⟩ := s.byteTime_cases
    rw [e'] at e
    cases e
    exact ⟨inv.stations, inv.occupations, inv.counter, inv.named, inv.opened, inv.queue, inv.staged, inv.closed, inv.places,
      inv.queued, inv.inFlight, inv.loading⟩
  · exact exec_tablesAgree (s := { s with pending := rest })
      ⟨inv.stations, inv.occupations, inv.counter, inv.named, inv.opened, inv.queue, inv.staged, inv.closed, inv.places,
      inv.queued, inv.inFlight, inv.loading⟩ e.symm

end Sys2Proof.Machine
end

section
/-!
PROOFS. Chapter 9.1: every step keeps the canonical form of the flash cells and the ranges of the archive's counts.
-/

namespace Sys2Proof.Machine

variable {s t : State}

/-! ### The flash cells -/

theorem State.cutFlash_wf (h : CellsWf s.flash.cells) (m : Bool) : CellsWf (s.cutFlash m).cells := by
  unfold State.cutFlash
  split
  · split
    · exact Flash.commit_wf h _ _
    · exact h
    · exact h
  · exact h

theorem exec_cellsWf {c : Instr} (inv : CellsWf s.flash.cells) (h : exec c s = .next t) : CellsWf t.flash.cells := by
  by_cases moves : Block.flash ∈ footprint c
  case neg => rw [(exec_agreesOff h).flash moves]; exact inv
  cases c
  case powerReset m | lineReset m => cases h; exact State.cutFlash_wf inv m
  case startModelStore => cases h; split <;> exact inv
  case startPageProgram =>
    rcases execStartPageProgram_cases h with rfl | ⟨b, rest, r, _, _, _, _, _, rfl⟩
    · exact inv
    · exact Flash.beginProgram_wf inv _ _
  case pageProgramSuccess =>
    rcases execPageProgramSuccess_cases h with rfl | ⟨b, r, _, _, rfl⟩
    · exact inv
    · rw [State.programSucceeds_flash]; exact Flash.commit_wf inv _ _
  case modelStoreCompletion v =>
    cases h; split
    · cases v <;> exact inv
    · exact inv
  all_goals simp [footprint] at moves

/-! ### The archive's counts -/

theorem Archive.advance_inRange {a : Archive} (h : a.writePage ≤ 4095) (wrap : Bool) : (a.advance wrap).writePage ≤ 4095 := by
  unfold Archive.advance
  split
  · simp only; omega
  · split <;> simp

@[simp] theorem Archive.advance_failureCount (a : Archive) (wrap : Bool) : (a.advance wrap).failureCount = a.failureCount := by
  unfold Archive.advance
  split
  · rfl
  · split <;> rfl

theorem mountPage_le (n : Option (Nat × Nat)) : mountPage n ≤ 4095 := by
  unfold mountPage
  split
  · omega
  · split <;> omega

theorem Archive.setBuffer_counts (a : Archive) (b : BufferId) (x : StagingBuffer) :
    (a.setBuffer b x).writePage = a.writePage ∧ (a.setBuffer b x).failureCount = a.failureCount := by
  cases b <;> exact ⟨rfl, rfl⟩

theorem State.releaseArchive_inRange (h : s.archive.InRange) : s.releaseArchive.archive.InRange := by
  unfold State.releaseArchive
  split
  · exact ⟨by simp, h.2⟩
  · exact h

theorem State.enterSurvey_inRange (h : s.archive.InRange) : s.enterSurvey.archive.InRange := by
  unfold State.enterSurvey State.postMode
  rw [State.postBoth_archive]
  exact State.releaseArchive_inRange (by simpa using h)

theorem State.programSucceeds_inRange (h : s.archive.InRange) (b : BufferId) (r : StagedRecord) :
    (s.programSucceeds b r).archive.InRange := by
  rw [State.programSucceeds_archive]
  refine ⟨Archive.advance_inRange ?_ _, Nat.zero_le _⟩
  rw [(Archive.setBuffer_counts ..).1]; exact h.1

theorem State.programFails_inRange (h : s.archive.InRange) (b : BufferId) (r : StagedRecord) :
    (s.programFails b r).archive.InRange := by
  have counts := s.archive.setBuffer_counts b (.loaded r)
  unfold State.programFails
  dsimp only
  split
  · rw [State.postFullIf_archive]
    exact ⟨Archive.advance_inRange (by rw [Archive.reload, counts.1]; exact h.1) _, le_refl 1⟩
  · exact ⟨counts.1.trans_le h.1, counts.2.trans_le h.2⟩

theorem arrtReply_inRange (h : s.archive.InRange) (l : List Byte) : (arrtReply l s).state.archive.InRange := by
  unfold arrtReply State.sized State.resumeArchive
  dsimp only
  split
  · split
    · rw [State.postArch_archive]
      exact ⟨Archive.advance_inRange (a := { s.archive with state := .ready }) h.1 _, Nat.zero_le _⟩
    · exact h
  · exact h

theorem State.seek_inRange (h : s.archive.InRange) (p : Port) (n : Nat) : (s.seek p n).archive.InRange := by cases p <;> exact h

theorem arskReply_inRange (h : s.archive.InRange) (p : Port) (l : List Byte) : (arskReply p l s).state.archive.InRange := by
  have sought (found : Option Nat) : (s.seekReply p found).state.archive.InRange := by
    cases found
    · exact h
    · exact State.seek_inRange h p _
  unfold arskReply State.sized
  repeat' split
  all_goals first | exact sought _ | exact h

theorem arnxReply_inRange (h : s.archive.InRange) (p : Port) (l : List Byte) : (arnxReply p l s).state.archive.InRange := by
  unfold arnxReply State.sized State.stepCursor
  dsimp only
  repeat' split
  all_goals first | exact State.seek_inRange h p _ | exact h

theorem exec_archiveInRange {c : Instr} (inv : s.archive.InRange) (h : exec c s = .next t) : t.archive.InRange := by
  by_cases moves : Block.archive ∈ footprint c
  case neg => rw [(exec_agreesOff h).archive moves]; exact inv
  have request {p : Port} {tag : Byte} {name : List Byte} (request : c.request = some (p, tag, name))
      (rule : (requestRule c s).state.archive.InRange) : t.archive.InRange := by
    rcases exec_request_block State.archive request h (by simp) with e | ⟨_, e⟩ <;> rw [e]
    · exact inv
    · exact rule
  cases c
  case powerReset m | lineReset m => cases h; exact ⟨Nat.zero_le _, Nat.zero_le _⟩
  case modelLoadEnd => cases h; split <;> exact inv
  case mountEnd =>
    rcases execMountEnd_cases h with rfl | ⟨_, _, _, _, _, archive⟩
    · exact inv
    · rw [archive]; exact ⟨mountPage_le _, inv.2⟩
  case surv p tag l =>
    refine request rfl ?_
    rcases survReply_cases l s with e | ⟨_, _, e⟩ <;> rw [requestRule, e]
    · exact inv
    · exact State.enterSurvey_inRange inv
  case arrt p tag l => exact request rfl (arrtReply_inRange inv l)
  case arsk p tag l => exact request rfl (arskReply_inRange inv p l)
  case arnx p tag l => exact request rfl (arnxReply_inRange inv p l)
  case staging =>
    change execStaging s = _ at h
    rcases execStaging_cases s with e | ⟨n, q, b, o, st, c, _, _, _, _, _, _, e⟩ | ⟨_, _, _, _, _, e⟩ <;> rw [e] at h <;> cases h
    · exact inv
    · have counts := s.archive.setBuffer_counts b (.loaded (stagedRecord o st c))
      exact ⟨counts.1.trans_le inv.1, counts.2.trans_le inv.2⟩
  case startModelStore => cases h; split <;> exact inv
  case startPageProgram =>
    rcases execStartPageProgram_cases h with rfl | ⟨b, rest, r, _, _, _, _, _, rfl⟩
    · exact inv
    · have counts := s.archive.setBuffer_counts b (.programming r)
      exact ⟨counts.1.trans_le inv.1, counts.2.trans_le inv.2⟩
  case pageProgramSuccess =>
    rcases execPageProgramSuccess_cases h with rfl | ⟨b, r, _, _, rfl⟩
    · exact inv
    · exact State.programSucceeds_inRange inv b r
  case pageProgramFailure =>
    rcases execPageProgramFailure_cases h with rfl | ⟨b, r, _, _, rfl⟩
    · exact inv
    · exact State.programFails_inRange inv b r
  case modelStoreCompletion v => cases h; split <;> exact inv
  all_goals simp [footprint] at moves

/-- Settles O58. -/
theorem stepKeepsTheFlashForm : Obligations.StepKeepsTheFlashForm := by
  constructor
  all_goals
    intro s t inv h
    rcases step_cases h with ⟨_, e⟩ | ⟨c, rest, _, e⟩
  case left.inr => exact exec_cellsWf (s := { s with pending := rest }) inv e.symm
  case right.inr => exact exec_archiveInRange (s := { s with pending := rest }) inv e.symm
  all_goals
    obtain ⟨a, b, i, cs, e', _, _⟩ := s.byteTime_cases
    rw [e'] at e
    cases e
    exact inv

end Sys2Proof.Machine
end

section
/-!
PROOFS. Log entry 5: in a sound state no command stops, and every command leaves a sound state (R44, R74, R81, R94, R101, R122,
R131, R134); and the state after a reset meets every invariant.
-/

namespace Sys2Proof.Machine

variable {s t u : State}

/-! ### What the engine has been handed -/

/-- Every thermal report the engine holds. -/
def Engine.held (e : Engine) : List ThermalReport := e.thermalReports ++ e.kept ++ e.latestReport.toList

/-- An engine that took a part of what it holds and was handed nothing. -/
structure Engine.Fewer (e e' : Engine) : Prop where
  held : e'.held ⊆ e.held
  levelNotices : e'.levelNotices ⊆ e.levelNotices

section
variable {e e' e'' : Engine}

theorem Engine.Fewer.refl (e : Engine) : e.Fewer e := ⟨List.Subset.refl _, List.Subset.refl _⟩

theorem Engine.Fewer.of_eq (h : e' = e) : e.Fewer e' := h ▸ .refl e

theorem Engine.Fewer.trans (h : e.Fewer e') (k : e'.Fewer e'') : e.Fewer e'' :=
  ⟨List.Subset.trans k.held h.held, List.Subset.trans k.levelNotices h.levelNotices⟩

/-- What counts is the reports and the notices. -/
theorem Engine.Fewer.of_same (reports : e'.thermalReports = e.thermalReports) (kept : e'.kept = e.kept ∨ e'.kept = [])
    (latest : e'.latestReport = e.latestReport) (notices : e'.levelNotices = e.levelNotices) : e.Fewer e' := by
  refine ⟨fun r mem => ?_, notices ▸ List.Subset.refl _⟩
  rcases kept with kept | kept <;> rw [Engine.held, reports, kept, latest] at mem <;> simp [Engine.held] at mem ⊢ <;> tauto

end

theorem State.armReading_fewer (s : State) (r : Reading) : s.engine.Fewer (s.armReading r).engine := by
  refine ⟨fun x mem => ?_, ?_⟩
  · simp [State.armReading, Engine.held] at mem ⊢; tauto
  · simp [State.armReading]

theorem State.waitLevel_fewer (s : State) (r : Reading) : s.engine.Fewer (s.waitLevel r).engine := .of_same rfl (.inl rfl) rfl rfl

theorem State.settled_fewer (s : State) (r : Reading) : s.engine.Fewer (s.settled r).engine := by
  unfold State.settled
  split
  · exact s.armReading_fewer r
  · exact s.waitLevel_fewer r

theorem State.endReading_fewer (s : State) (r : Reading) (o : RdonOutcome) (c : Option RdonCause) :
    s.engine.Fewer (s.endReading r o c).engine := .of_same rfl (.inr rfl) rfl rfl

theorem State.finish_fewer (s : State) (r : Reading) : s.engine.Fewer (s.finish r).engine := by
  unfold State.finish
  split
  · exact State.endReading_fewer (s.addResult r.result) r _ _
  · exact s.endReading_fewer r _ _

theorem State.afterGate_fewer (s : State) (r : Reading) : s.engine.Fewer (s.afterGate r).engine := by
  unfold State.afterGate
  split
  · exact s.finish_fewer r
  · split
    · exact s.finish_fewer r
    · split
      · exact s.waitLevel_fewer r
      · exact s.armReading_fewer r

theorem State.gateOver_fewer (s : State) : s.engine.Fewer s.gateOver.engine := .of_same rfl (.inr rfl) rfl rfl

theorem State.evaluate_fewer {r : Reading} {h : HeldGate} {c : ThermalReport} (e : s.evaluate r h c = .next t) :
    s.engine.Fewer t.engine := by
  rcases s.evaluate_cases r h c with ⟨_, _, e'⟩ | ⟨_, _, _, _, _, _, _, e'⟩ | ⟨⟨f, e'⟩, _⟩ <;> rw [e'] at e <;> cases e
  · exact s.gateOver_fewer.trans (State.afterGate_fewer ..)
  · exact s.gateOver_fewer.trans (State.afterGate_fewer ..)

theorem State.loseLevel_fewer (s : State) (r : Reading) : s.engine.Fewer (s.loseLevel r).engine := by
  have dropped : s.engine.Fewer { s.engine with acc := .none, kept := [] } := .of_same rfl (.inr rfl) rfl rfl
  unfold State.loseLevel
  split
  · exact .refl _
  · dsimp only
    split
    all_goals split
    · refine .trans ?_ (State.finish_fewer _ _)
      exact dropped
    · refine .trans ?_ (State.waitLevel_fewer _ _)
      exact dropped
    · refine .trans ?_ (State.finish_fewer _ _)
      exact dropped
    · refine .trans ?_ (State.waitLevel_fewer _ _)
      exact dropped

theorem State.withReports_fewer (s : State) (l : List GateReport) : s.engine.Fewer (s.withReports l).engine :=
  .of_same rfl (.inl rfl) rfl rfl

/-- A thermal report taken becomes the latest, and may be kept (R102). -/
theorem Engine.Fewer.taken {e : Engine} {c : ThermalReport} {l : List ThermalReport} (reports : e.thermalReports = c :: l)
    (reading : Option Reading) {kept : List ThermalReport} (h : kept = e.kept ∨ kept = e.kept ++ [c]) :
    e.Fewer { e with thermalReports := l, latestReport := some c, reading := reading, kept := kept } := by
  refine ⟨fun x mem => ?_, List.Subset.refl _⟩
  rcases h with rfl | rfl <;> simp [Engine.held, reports] at mem ⊢ <;> tauto

theorem execLevelNotice_fewer (h : exec .levelNotice s = .next t) : s.engine.Fewer t.engine := by
  cases h
  split
  · exact .refl _
  next l ls notices =>
    have taken : s.engine.Fewer { s.engine with levelNotices := ls } :=
      ⟨List.Subset.refl _, by rw [notices]; exact List.subset_cons_self l ls⟩
    unfold State.noticed
    split
    · exact taken
    · split
      · exact taken.trans (State.armReading_fewer { s with engine := _ } _)
      · exact taken.trans (State.loseLevel_fewer { s with engine := _ } _)
      · exact taken

theorem execTakeHead_fewer (h : exec .takeHead s = .next t) : s.engine.Fewer t.engine := by
  change execTakeHead s = _ at h
  unfold execTakeHead at h
  split at h
  next q qs _ _ =>
    split at h
    · cases h
    · have taken (r : Option Reading) : s.engine.Fewer { s.engine with queue := qs, reading := r } := .of_same rfl (.inl rfl) rfl rfl
      dsimp only at h
      split at h <;> cases h
      · exact (taken _).trans (State.settled_fewer { s with engine := _ } _)
      · exact taken _
  · cases h; exact .refl _

theorem execCompletionReport_fewer (h : exec .completionReport s = .next t) : s.engine.Fewer t.engine := by
  change execCompletionReport s = _ at h
  rcases execCompletionReport_cases s with e | ⟨l, e⟩ | ⟨l, c, r, _, _, e⟩ <;> rw [e] at h
  · cases h; exact .refl _
  · cases h; exact s.withReports_fewer l
  · rcases (s.withReports l).takeCompletion_cases r c with ⟨_, _, e⟩ | ⟨held, e⟩ | ⟨held, report, _, e⟩ <;> rw [e] at h
    · cases h
    · cases h; exact .of_same rfl (.inl rfl) rfl rfl
    · exact (s.withReports_fewer l).trans (State.evaluate_fewer h)

theorem State.withThermalReport_fewer {c : ThermalReport} {l : List ThermalReport} (reports : s.engine.thermalReports = c :: l)
    (r : Reading) : s.engine.Fewer (s.withThermalReport r c l).engine := by
  refine .taken reports _ ?_
  split
  · exact .inr rfl
  · exact .inl rfl

theorem execThermalReport_fewer (h : exec .thermalReport s = .next t) : s.engine.Fewer t.engine := by
  change execThermalReport s = _ at h
  rcases execThermalReport_cases s with ⟨_, e⟩ | ⟨c, l, reports, ⟨_, e⟩ | ⟨r, _, e | ⟨held, _, e⟩⟩⟩ <;> rw [e] at h
  · cases h; exact .refl _
  · cases h; exact .taken reports _ (.inl rfl)
  · cases h; exact State.withThermalReport_fewer reports r
  · exact (State.withThermalReport_fewer reports r).trans (State.evaluate_fewer h)

theorem execTimeoutReport_fewer (h : exec .timeoutReport s = .next t) : s.engine.Fewer t.engine := by
  change execTimeoutReport s = _ at h
  rcases execTimeoutReport_cases s with e | ⟨l, e⟩ | ⟨l, _, r, _, _, e⟩ <;> rw [e] at h <;> cases h
  · exact .refl _
  · exact s.withReports_fewer l
  · exact ((s.withReports_fewer l).trans (State.gateOver_fewer _)).trans (State.afterGate_fewer _ _)

theorem execRdrq_fewer {p : Port} {tag : Byte} {l : List Byte} (h : exec (.rdrq p tag l) s = .next t) :
    s.engine.Fewer t.engine := by
  rcases exec_request_block State.engine rfl h (by simp) with e | ⟨_, e⟩ <;> rw [e]
  · exact .refl _
  · rcases rdrqReply_cases p l s with e | ⟨_, _, _, _, _, _, _, _, _, _, _, _, e⟩ <;> rw [requestRule, e]
    · exact .refl _
    · exact .of_same rfl (.inl rfl) rfl rfl

theorem execRdcn_fewer {p : Port} {tag : Byte} {l : List Byte} (h : exec (.rdcn p tag l) s = .next t) :
    s.engine.Fewer t.engine := by
  rcases exec_request_block State.engine rfl h (by simp) with e | ⟨_, e⟩ <;> rw [e]
  · exact .refl _
  · rcases rdcnReply_cases p l s with e | ⟨_, _, e⟩ | ⟨r, _, e⟩ <;> rw [requestRule, e]
    · exact .refl _
    · exact .of_same rfl (.inl rfl) rfl rfl
    · unfold State.cancelInFlight
      dsimp only
      split <;> exact .of_same rfl (.inr rfl) rfl rfl

/-- A restarted engine holds nothing (R118). -/
theorem State.restart_fewer (s : State) (p : Port) (e : Engine) : e.Fewer (s.restart p).engine :=
  ⟨List.nil_subset _, List.nil_subset _⟩

/-- A command that takes part in a reading takes a part of what the engine holds. -/
theorem exec_fewer {c : Instr} (h : exec c s = .next t) (part : takesPart c = true) : s.engine.Fewer t.engine := by
  cases c <;> simp only [takesPart, Bool.false_eq_true] at part
  case powerReset | lineReset => cases h; exact ⟨List.nil_subset _, List.nil_subset _⟩
  case responseSent p =>
    rcases execResponseSent_cases h with rfl | ⟨u, rfl, rfl | rfl⟩
    · exact .refl _
    · exact .of_eq (by simp)
    · exact State.restart_fewer ..
  case restartTimerExpiry =>
    rcases execRestartTimerExpiry_cases h with rfl | ⟨p, rfl⟩
    · exact .refl _
    · exact State.restart_fewer ..
  case takeHead => exact execTakeHead_fewer h
  case settleExpiry =>
    cases h; split
    · split
      · split
        · exact s.settled_fewer _
        · exact .refl _
      · exact .refl _
    · exact .refl _
  case levelWaitExpiry =>
    cases h; split
    · split
      · split
        · exact s.endReading_fewer _ _ _
        · exact .refl _
      · exact .refl _
    · exact .refl _
  case levelNotice => exact execLevelNotice_fewer h
  case completionReport => exact execCompletionReport_fewer h
  case timeoutReport => exact execTimeoutReport_fewer h
  case thermalReport => exact execThermalReport_fewer h
  case stepNotice =>
    cases h; dsimp only
    repeat' split
    all_goals exact .of_same rfl (.inl rfl) rfl rfl
  case rdrq => exact execRdrq_fewer h
  case rdcn => exact execRdcn_fewer h

/-- Every thermal report the engine holds is usable (R44). -/
def Engine.Trusted (e : Engine) : Prop := ∀ r ∈ e.held, r.Usable

theorem Engine.trusted_iff (e : Engine) : e.Trusted ↔ (∀ t ∈ e.thermalReports, t.Usable) ∧ (∀ t ∈ e.kept, t.Usable) ∧
    ∀ t, e.latestReport = some t → t.Usable := by
  simp only [Engine.Trusted, Engine.held, List.mem_append, Option.mem_toList, or_imp, forall_and, and_assoc]

theorem exec_trusted {c : Instr} (inv : s.engine.Trusted) (h : exec c s = .next t) : t.engine.Trusted := by
  by_cases rest : takesPart c = false
  · obtain ⟨_, _, _, kept, latest, reports, _⟩ := exec_handed h rest
    rw [Engine.trusted_iff] at inv ⊢
    rw [kept, latest]
    exact ⟨fun r mem => (reports r mem).elim (inv.1 r) id, inv.2⟩
  · exact fun r mem => inv r ((exec_fewer h (by simpa using rest)).held mem)

/-! ### The model under which a reading may run -/

@[simp] theorem Archive.setBuffer_activity (a : Archive) (b : BufferId) (x : StagingBuffer) :
    (a.setBuffer b x).activity = a.activity := by cases b <;> rfl

@[simp] theorem Archive.advance_activity (a : Archive) (wrap : Bool) : (a.advance wrap).activity = a.activity := by
  unfold Archive.advance
  split
  · rfl
  · split <;> rfl

@[simp] theorem State.releaseArchive_activity (s : State) : s.releaseArchive.archive.activity = s.archive.activity := by
  unfold State.releaseArchive
  split <;> simp

@[simp] theorem State.seek_activity (s : State) (p : Port) (n : Nat) : (s.seek p n).archive.activity = s.archive.activity := by
  cases p <;> rfl

theorem arrtReply_activity (l : List Byte) (s : State) : (arrtReply l s).state.archive.activity = s.archive.activity := by
  unfold arrtReply State.sized State.resumeArchive
  dsimp only
  repeat' split
  all_goals simp

theorem arskReply_activity (p : Port) (l : List Byte) (s : State) :
    (arskReply p l s).state.archive.activity = s.archive.activity := by
  unfold arskReply State.sized State.seekReply
  repeat' split
  all_goals simp

theorem arnxReply_activity (p : Port) (l : List Byte) (s : State) :
    (arnxReply p l s).state.archive.activity = s.archive.activity := by
  unfold arnxReply State.sized State.stepCursor
  dsimp only
  repeat' split
  all_goals simp

theorem survReply_activity (l : List Byte) (s : State) : (survReply l s).state.archive.activity = s.archive.activity := by
  rcases survReply_cases l s with e | ⟨_, _, e⟩ <;> rw [e]
  simp [State.enterSurvey, State.postMode]

theorem State.programFails_activity (s : State) (b : BufferId) (r : StagedRecord) :
    (s.programFails b r).archive.activity = .idle := by
  unfold State.programFails
  dsimp only
  split <;> simp [Archive.reload]

/-- The commands that end a store, or set the flash engine afresh. -/
def EndsStore (c : Instr) (s : State) : Prop :=
  Resets c ∨ (c = .modelLoadEnd ∧ s.startUp.phase = .load) ∨ ∃ v, c = .modelStoreCompletion v

/-- The flash engine works on a store only while one is outstanding, and not past its end (R87, R88). -/
theorem exec_activity {c : Instr} (h : exec c s = .next t) (store : t.archive.activity = .store) :
    ¬EndsStore c s ∧ (s.archive.activity = .store ∨ s.model.storeOutstanding = true) := by
  by_cases moves : Block.archive ∈ footprint c
  case neg =>
    refine ⟨?_, .inl ((exec_agreesOff h).archive moves ▸ store)⟩
    rintro (⟨m, rfl | rfl⟩ | ⟨rfl, _⟩ | ⟨v, rfl⟩) <;> simp [footprint] at moves
  have request {p : Port} {tag : Byte} {name : List Byte} (request : c.request = some (p, tag, name))
      (rule : (requestRule c s).state.archive.activity = s.archive.activity) : s.archive.activity = .store := by
    rcases exec_request_block State.archive request h (by simp) with e | ⟨_, e⟩ <;> rw [e] at store
    · exact store
    · exact rule.symm.trans store
  cases c
  case powerReset | lineReset => cases h; cases store
  case modelLoadEnd =>
    cases h
    split at store
    next => cases store
    next other => exact ⟨by simp [EndsStore, Resets, other], .inl store⟩
  case modelStoreCompletion v =>
    cases h
    split at store
    next => cases store
    next other => exact absurd store other
  case startModelStore =>
    refine ⟨by simp [EndsStore, Resets], ?_⟩
    cases h
    split at store
    next waiting => exact .inr (by simpa [State.storeWaiting] using (Bool.and_eq_true .. ▸ waiting.2 : _ ∧ _).1)
    next => exact .inl store
  all_goals refine ⟨by simp [EndsStore, Resets], .inl ?_⟩
  case mountEnd =>
    rcases execMountEnd_cases h with rfl | ⟨_, _, _, _, _, archive⟩
    · exact store
    · rw [archive] at store; cases store
  case surv p tag l => exact request rfl (survReply_activity l s)
  case arrt p tag l => exact request rfl (arrtReply_activity l s)
  case arsk p tag l => exact request rfl (arskReply_activity p l s)
  case arnx p tag l => exact request rfl (arnxReply_activity p l s)
  case staging =>
    change execStaging s = _ at h
    rcases execStaging_cases s with e | ⟨n, q, b, o, st, c, _, _, _, _, _, _, e⟩ | ⟨_, _, _, _, _, e⟩ <;> rw [e] at h <;> cases h
    · exact store
    · simpa using store
  case startPageProgram =>
    rcases execStartPageProgram_cases h with rfl | ⟨b, rest, r, _, _, _, _, _, rfl⟩
    · exact store
    · cases store
  case pageProgramSuccess =>
    rcases execPageProgramSuccess_cases h with rfl | ⟨b, r, _, _, rfl⟩
    · exact store
    · rw [State.programSucceeds_archive] at store; cases store
  case pageProgramFailure =>
    rcases execPageProgramFailure_cases h with rfl | ⟨b, r, _, _, rfl⟩
    · exact store
    · rw [State.programFails_activity] at store; cases store
  all_goals simp [footprint] at moves

/-- A reading is neither queued nor in flight. -/
def Engine.Idle (e : Engine) : Prop := e.queue = [] ∧ e.reading = none

/-- An idle engine is left idle but by an accepted request, which needs SURVEY and a part that is ready (R92). -/
theorem exec_idle {c : Instr} (idle : s.engine.Idle) (h : exec c s = .next t) : t.engine.Idle ∨
    (s.model.mode ≠ .setup ∧ s.startUp.phase = .ready ∧ (Resets c ∨ t.model = s.model)) := by
  by_cases rest : takesPart c = false
  · have handed := exec_handed h rest
    exact .inl ⟨handed.queue.trans idle.1, handed.reading.trans idle.2⟩
  have part : takesPart c = true := by simpa using rest
  have busy {r : Reading} (reading : s.engine.reading = some r) : False := by rw [idle.2] at reading; cases reading
  cases exec_engineMoves h (.inl part) with
  | kept books => exact .inl ⟨books.queue.trans idle.1, books.reading.trans idle.2⟩
  | marked reading | attempted reading | ended reading | finished reading => exact (busy reading).elim
  | accepted p mode ready =>
    refine .inr ⟨mode, ready, ?_⟩
    by_cases resets : Resets c
    · exact .inl resets
    · exact .inr ((exec_agreesOff h).model (takesPart_footprint part resets).2.2)
  | taken _ _ queue => rw [idle.1] at queue; cases queue
  | cancelled q books => exact .inl ⟨books.queue.trans (by simp [idle.1]), books.reading.trans idle.2⟩
  | restarted books => exact .inl ⟨books.queue, books.reading⟩
  | reset _ _ books => exact .inl ⟨books.queue, books.reading⟩

theorem exec_modelValid {c : Instr} (inv : s.ModelValid) (h : exec c s = .next t) (noReset : ¬Resets c) : t.ModelValid where
  survey := by
    generalize e : t.model = m
    have moves := e ▸ exec_modelMoves h
    cases moves with
    | reset resets => exact absurd resets noReset
    | loaded _ _ =>
      unfold Flash.loadModel
      split
      next i stored => exact fun _ => inv.image i stored
      next => exact fun survey => (by cases survey)
    | written _ _ setup => intro survey; rw [setup] at survey; cases survey
    | setup => exact fun survey => (by cases survey)
    | survey _ valid => exact fun _ => valid
    | kept | storing | stored => exact inv.survey
  image := by
    intro i image
    generalize e : t.flash.image = o at image
    have moves := e ▸ exec_imageMoves h
    cases moves with
    | kept => exact inv.image i image
    | invalidated => cases image
    | stored store => cases image; exact inv.survey (inv.outstanding (inv.storing store))
  storing := by
    intro store
    obtain ⟨goes, before⟩ := exec_activity h store
    have outstanding : s.model.storeOutstanding = true := before.elim inv.storing id
    generalize e : t.model = m
    have moves := e ▸ exec_modelMoves h
    cases moves with
    | reset resets => exact absurd resets noReset
    | loaded ends load => exact absurd (.inr (.inl ⟨ends, load⟩)) goes
    | stored ends => exact absurd (.inr (.inr ⟨_, ends⟩)) goes
    | storing => rfl
    | kept | written | setup | survey => exact outstanding
  outstanding := by
    generalize e : t.model = m
    have moves := e ▸ exec_modelMoves h
    cases moves with
    | reset resets => exact absurd resets noReset
    | loaded => unfold Flash.loadModel; split <;> exact fun some => (by cases some)
    | written => exact inv.outstanding
    | setup _ _ none => intro some; rw [none] at some; cases some
    | survey => exact fun _ => rfl
    | storing survey => exact fun _ => survey
    | stored => exact fun some => (by cases some)
    | kept => exact inv.outstanding
  setup := by
    intro setup
    have from_idle (idle : s.engine.Idle) : t.engine.Idle := by
      rcases exec_idle idle h with idle | ⟨mode, ready, resets | model⟩
      · exact idle
      · exact absurd resets noReset
      · rw [model] at setup; exact absurd setup mode
    generalize e : t.model = m at setup
    have moves := e ▸ exec_modelMoves h
    cases moves with
    | reset resets => exact absurd resets noReset
    | loaded _ load => exact from_idle (inv.loading (.inl load))
    | setup queue reading => exact from_idle ⟨queue, reading⟩
    | survey => cases setup
    | storing survey => rw [survey] at setup; cases setup
    | kept | written | stored => exact from_idle (inv.setup setup)
  loading := by
    intro loading
    have before := exec_loading h noReset loading
    rcases exec_idle (inv.loading before) h with idle | ⟨_, ready, _⟩
    · exact idle
    · rw [ready] at before; simp at before

/-! ### The frame in force -/

/-- Where no frame is in force, no gate may run (R101). -/
def State.InForce (s : State) : Prop := s.scan.latest = none →
  s.level.state = .unlevel ∧ s.level.frames = [] ∧ LevelState.level ∉ s.engine.levelNotices ∧
    ∀ r, s.engine.reading = some r → r.keeps = false

/-- Only a reset or a restart takes the frame in force away (R18). -/
theorem exec_latest {c : Instr} (h : exec c s = .next t) (none : t.scan.latest = none) : s.scan.latest = Option.none ∨
    (t.level = .reset ∧ t.engine.levelNotices = [] ∧ t.engine.reading = Option.none) := by
  by_cases moves : Block.scan ∈ footprint c
  case neg => exact .inl ((exec_agreesOff h).scan moves ▸ none)
  cases c
  case powerReset | lineReset => cases h; exact .inr ⟨rfl, rfl, rfl⟩
  case modelLoadEnd => cases h; split at none <;> exact .inl none
  case mdwr p tag l =>
    rcases exec_request_block State.scan rfl h (by simp) with e | ⟨_, e⟩ <;> rw [e] at none
    · exact .inl none
    · rcases mdwrReply_cases l s with e | ⟨id, _, g, _, _, e⟩ <;> rw [requestRule, e] at none
      · exact .inl none
      · cases id <;> exact .inl (by simpa [State.groupEffect, State.startScan, State.withGroups] using none)
  case responseSent p =>
    rcases execResponseSent_cases h with rfl | ⟨u, rfl, rfl | rfl⟩
    · exact .inl none
    · exact .inl (by simpa using none)
    · exact .inr ⟨rfl, rfl, rfl⟩
  case restartTimerExpiry =>
    rcases execRestartTimerExpiry_cases h with rfl | ⟨p, rfl⟩
    · exact .inl none
    · exact .inr ⟨rfl, rfl, rfl⟩
  case frameArrival =>
    rcases execFrameArrival_cases h with rfl | ⟨due, _, _, _, rfl⟩
    · exact .inl none
    · rw [s.arrive_latest due] at none; cases none
  case analogConversion ch code =>
    cases h
    split at none
    · cases ch <;> exact .inl none
    · exact .inl none
  all_goals simp [footprint] at moves

theorem State.InForce.level {c : Instr} (unlevel : s.level.state = .unlevel) (frames : s.level.frames = [])
    (h : exec c s = .next t) (none : t.scan.latest = none) : t.level.state = .unlevel ∧ t.level.frames = [] := by
  cases exec_levelMoves h with
  | kept level | loaded _ _ level | rescanned level => rw [level]; exact ⟨unlevel, frames⟩
  | reset _ level => rw [level]; exact ⟨rfl, rfl⟩
  | afresh state list => exact ⟨state, list.elim (·.trans frames) id⟩
  | delivered _ _ _ latest => exact absurd none latest
  | judged waiting => rw [frames] at waiting; cases waiting

theorem exec_inForce {c : Instr} (inv : s.InForce) (h : exec c s = .next t) : t.InForce := by
  intro none
  rcases exec_latest h none with before | ⟨level, notices, reading⟩
  case inr => rw [level, notices, reading]; exact ⟨rfl, rfl, by simp, by simp⟩
  obtain ⟨unlevel, frames, notices, keeps⟩ := inv before
  obtain ⟨unlevel', frames'⟩ := State.InForce.level unlevel frames h none
  have mayNot : ¬s.MayArm := by
    rintro (level | notice)
    · rw [unlevel] at level; cases level
    · exact notices notice
  refine ⟨unlevel', frames', ?_⟩
  by_cases rest : takesPart c = false
  · have handed := exec_handed h rest
    refine ⟨fun mem => ?_, handed.reading ▸ keeps⟩
    rcases handed.levelNotices mem with old | level
    · exact notices old
    · rw [unlevel'] at level; cases level
  have part : takesPart c = true := by simpa using rest
  refine ⟨fun mem => notices ((exec_fewer h part).levelNotices mem), fun r reading => ?_⟩
  rw [← Bool.not_eq_true]
  intro runs
  cases exec_engineMoves h (.inl part) with
  | kept books | accepted _ _ _ _ _ _ _ _ books | cancelled _ books =>
    rw [keeps r (books.reading ▸ reading)] at runs; cases runs
  | marked before marks arms books =>
    cases books.reading.symm.trans reading
    rcases arms runs with old | may
    · rw [keeps _ before] at old; cases old
    · exact mayNot may
  | attempted before old => rw [keeps _ before] at old; cases old
  | taken _ _ _ _ _ arms books =>
    cases books.reading.symm.trans reading
    exact mayNot (arms runs)
  | ended _ books | finished _ _ _ _ books | restarted books | reset _ _ books =>
    rw [books.reading] at reading; cases reading

/-! ### No command stops -/

theorem nearestSlot_isSome {r : Nat} {l : List CaliSlot} (h : l.any (·.enabled) = true) : (nearestSlot r l).isSome = true := by
  induction l with
  | nil => cases h
  | cons c cs ih =>
    unfold nearestSlot
    cases nearest : nearestSlot r cs with
    | some d => dsimp only; split <;> rfl
    | none =>
      rw [nearest] at ih
      have last : c.enabled = true := by
        rw [List.any_cons, Bool.or_eq_true] at h
        exact h.resolve_right fun others => (by cases ih others)
      simp [last]

/-- With a slot enabled the lookup has a value (R74). -/
theorem lookup_isSome {l : List CaliSlot} (h : l.any (·.enabled) = true) (raw : Nat) : (lookup l raw).isSome = true := by
  unfold lookup selectSlot
  split
  · rfl
  · simp [nearestSlot_isSome h]

theorem Groups.enabled_of_valid {g : Groups} (h : g.validate = none) : g.cali.toList.any (·.enabled) = true := by
  unfold Groups.validate at h
  split at h
  next enabled => exact enabled
  · cases h

theorem State.station_exists {n : Nat} (h : ∃ x ∈ s.stations, x.number = n) : ∃ x, s.station n = some x := by
  cases found : s.station n with
  | some x => exact ⟨x, rfl⟩
  | none =>
    obtain ⟨x, mem, number⟩ := h
    exact absurd number (State.station_eq_none found mem)

theorem State.occupation_exists {n : Nat} {o : Occupation} (mem : o ∈ s.occupations.entries) (number : o.number = n) :
    ∃ o', s.occupation n = some o' :=
  Option.isSome_iff_exists.mp (List.find?_isSome.mpr ⟨o, mem, by simpa using number⟩)

/-- What an evaluation needs of the model and of the tables. -/
structure State.CanEvaluate (s : State) (r : Reading) : Prop where
  slot : s.model.groups.cali.toList.any (·.enabled) = true
  station : ∃ x, s.station r.station = some x

/-- A reading in flight runs under a valid model and at a station of the table (R81, R94, R122, R134). -/
theorem State.Sound.canEvaluate (sound : s.Sound) {r : Reading} (reading : s.engine.reading = some r) : s.CanEvaluate r where
  slot := by
    refine Groups.enabled_of_valid (sound.model.survey ?_)
    cases mode : s.model.mode with
    | survey => rfl
    | setup => rw [(sound.model.setup mode).2] at reading; cases reading
  station := by
    obtain ⟨o, mem, _, _, station⟩ := sound.tables.inFlight r reading
    exact State.station_exists (station ▸ sound.tables.named o mem)

theorem State.CanEvaluate.completes {r : Reading} (can : s.CanEvaluate r) {c : ThermalReport} (usable : c.Usable) (h : HeldGate) :
    ∃ t, s.evaluate r h c = .next t := by
  rcases s.evaluate_cases r h c with ⟨_, _, e⟩ | ⟨_, _, _, _, _, _, _, e⟩ | ⟨_, trusted, slot | station | baseline⟩
  · exact ⟨_, e⟩
  · exact ⟨_, e⟩
  · have found := lookup_isSome can.slot h.report.raw
    rw [slot] at found; cases found
  · obtain ⟨x, found⟩ := can.station
    rw [station] at found; cases found
  · have found := usable trusted
    rw [baseline] at found; cases found

theorem execTakeHead_completes (tables : s.TablesAgree) : ∃ t, execTakeHead s = .next t := by
  unfold execTakeHead
  split
  next q qs _ queue =>
    obtain ⟨o, mem, number, _⟩ := tables.queued q (by simp [queue])
    obtain ⟨o', present⟩ := State.occupation_exists mem number
    exact ⟨_, by rw [present]⟩
  · exact ⟨_, rfl⟩

theorem execStaging_completes (tables : s.TablesAgree) : ∃ t, execStaging s = .next t := by
  rcases execStaging_cases s with e | ⟨_, _, _, _, _, _, _, _, _, _, _, _, e⟩ | ⟨f, n, q, queue, lost, _⟩
  · exact ⟨_, e⟩
  · exact ⟨_, e⟩
  obtain ⟨o, mem, number, closed⟩ := (tables.queue.2 n).1 (by simp [queue])
  rcases lost with absent | ⟨o', present, lost⟩
  · obtain ⟨_, present⟩ := State.occupation_exists mem number
    rw [absent] at present; cases present
  · obtain ⟨mem', number'⟩ := State.occupation_eq_some present
    cases tables.occupation_unique mem mem' (number.trans number'.symm)
    rcases lost with station | time
    · obtain ⟨x, found⟩ := State.station_exists (tables.named o mem)
      rw [station] at found; cases found
    · have some := tables.closed o mem (by simp [closed])
      rw [time] at some; cases some

theorem execCompletionReport_completes (sound : s.Sound) : ∃ t, execCompletionReport s = .next t := by
  rcases execCompletionReport_cases s with e | ⟨l, e⟩ | ⟨l, c, r, reading, state, e⟩
  · exact ⟨_, e⟩
  · exact ⟨_, e⟩
  rw [e]
  rcases (s.withReports l).takeCompletion_cases r c with ⟨_, none, _⟩ | ⟨held, e⟩ | ⟨held, report, kept, e⟩
  · have idle := (sound.inForce none).2.2.2 r reading
    rw [Reading.keeps, state] at idle; cases idle
  · exact ⟨_, e⟩
  · obtain ⟨slot, station⟩ := sound.canEvaluate reading
    rw [e]
    exact State.CanEvaluate.completes (s := s.withReports l) ⟨slot, station⟩ (sound.reports.2.1 report kept) held

theorem execThermalReport_completes (sound : s.Sound) : ∃ t, execThermalReport s = .next t := by
  rcases execThermalReport_cases s with ⟨_, e⟩ | ⟨c, l, reports, ⟨_, e⟩ | ⟨r, reading, e | ⟨held, _, e⟩⟩⟩
  · exact ⟨_, e⟩
  · exact ⟨_, e⟩
  · exact ⟨_, e⟩
  · obtain ⟨slot, station⟩ := sound.canEvaluate reading
    rw [e]
    exact State.CanEvaluate.completes (s := s.withThermalReport r c l) (r := r.sawReport c) ⟨slot, station⟩
      (sound.reports.1 c (by simp [reports])) held

/-- In a sound state no command stops: only these four can (log entry 5). -/
theorem exec_completes (sound : s.Sound) (c : Instr) : ∃ t, exec c s = .next t := by
  cases c
  case takeHead => exact execTakeHead_completes sound.tables
  case staging => exact execStaging_completes sound.tables
  case completionReport => exact execCompletionReport_completes sound
  case thermalReport => exact execThermalReport_completes sound
  all_goals exact ⟨_, rfl⟩

/-! ### Every step leaves a sound state -/

/-- After a reset over a flash with a valid image the state is sound (R170). -/
theorem State.afterReset_sound {cause : ResetCause} {f : Flash} {i : Incoming} {l : List Instr}
    (image : ∀ m, f.image = some m → m.groups.validate = none) : (State.afterReset cause f i l).Sound where
  tables := State.reset_tablesAgree
  model := by
    constructor
    case image => exact image
    all_goals simp [State.afterReset, Archive.reset, Engine.reset]
  inForce := fun _ => ⟨rfl, rfl, List.not_mem_nil, fun r reading => (by cases reading)⟩
  reports := by simp [State.afterReset, Engine.reset]

theorem State.cutFlash_valid (inv : s.ModelValid) (m : Bool) (i : ModelImage) (image : (s.cutFlash m).image = some i) :
    i.groups.validate = none := by
  generalize e : (s.cutFlash m).image = o at image
  have moves := e ▸ s.cutFlash_imageMoves m
  cases moves with
  | kept => exact inv.image i image
  | invalidated => cases image
  | stored store => cases image; exact inv.survey (inv.outstanding (inv.storing store))

theorem exec_sound {c : Instr} (sound : s.Sound) (h : exec c s = .next t) : t.Sound := by
  by_cases resets : Resets c
  · obtain ⟨m, rfl | rfl⟩ := resets <;> cases h <;> exact State.afterReset_sound (State.cutFlash_valid sound.model m)
  · exact ⟨exec_tablesAgree sound.tables h, exec_modelValid sound.model h resets, exec_inForce sound.inForce h,
      (Engine.trusted_iff _).1 (exec_trusted ((Engine.trusted_iff _).2 sound.reports) h)⟩

/-- What stands outside the part, and the ports, do not make a state sound. -/
theorem State.Sound.of_outside (sound : s.Sound) (a b : PortState) (i : Incoming) (l : List Instr) :
    State.Sound { s with portA := a, portB := b, incoming := i, pending := l } := by
  obtain ⟨⟨stations, occupations, counter, named, opened, queue, staged, closed, places, queued, inFlight, loading⟩,
    ⟨survey, image, storing, outstanding, setup, load⟩, inForce, reports⟩ := sound
  exact ⟨⟨stations, occupations, counter, named, opened, queue, staged, closed, places, queued, inFlight, loading⟩,
    ⟨survey, image, storing, outstanding, setup, load⟩, inForce, reports⟩

/-- Settles O59: the invariants of the tables and of the model, with the frame in force and the trusted reports, keep every
command from stopping, and every command keeps them. -/
theorem soundStatesNeverStop : Obligations.SoundStatesNeverStop := by
  constructor
  · intro s sound
    rcases step_cases (s := s) rfl with ⟨_, e⟩ | ⟨c, rest, _, e⟩
    · exact ⟨_, e⟩
    · obtain ⟨t, completes⟩ := exec_completes (sound.of_outside s.portA s.portB s.incoming rest) c
      exact ⟨t, e.trans completes⟩
  · intro s t sound h
    rcases step_cases h with ⟨_, e⟩ | ⟨c, rest, _, e⟩
    · obtain ⟨a, b, i, cs, e', _, _⟩ := s.byteTime_cases
      rw [e'] at e
      cases e
      exact sound.of_outside a b i _
    · exact exec_sound (sound.of_outside s.portA s.portB s.incoming rest) e.symm

/-! ### The state after the first reset -/

theorem PortState.reset_lineFollows : PortState.reset.LineFollows := by simp [PortState.LineFollows, PortState.reset]

theorem PortState.reset_countsHeld : PortState.reset.CountsHeld :=
  ⟨fun f => by simp [PortState.reset], by simp [PortState.reset]⟩

theorem State.reset_levelMeansLevel : State.reset.LevelMeansLevel :=
  ⟨fun level => (by cases level), fun _ => ⟨rfl, rfl, rfl⟩, by decide, fun i image => (by cases image)⟩

theorem Engine.reset_ticketsDistinct : Engine.reset.TicketsDistinct := by
  constructor <;> simp [Engine.reset, Engine.tickets]

theorem State.reset_countsAddUp : State.reset.CountsAddUp := by
  constructor <;> simp [State.reset, State.afterReset, Engine.reset]

theorem State.reset_resultsInRange : State.reset.ResultsInRange := by
  constructor <;> simp [State.reset, State.afterReset, Engine.reset, Groups.defaults, GateGroup.defaults]

/-- Settles O60. -/
theorem resetMeetsTheInvariants : Obligations.ResetMeetsTheInvariants :=
  ⟨⟨PortState.reset_lineFollows, PortState.reset_lineFollows⟩, ⟨PortState.reset_countsHeld, PortState.reset_countsHeld⟩,
    (State.portsInOrder_iff _).2 fun p => by cases p <;> exact PortState.inOrder_of_idle rfl rfl,
    Clock.reset_countsInRange, State.reset_levelMeansLevel,
    ⟨Groups.defaults_inRange, fun i image => (by cases image)⟩, Engine.reset_ticketsDistinct, State.reset_countsAddUp,
    State.reset_resultsInRange, State.reset_tablesAgree, by simp [State.reset, State.afterReset, CellsWf],
    ⟨Nat.zero_le _, Nat.zero_le _⟩, State.afterReset_sound fun i image => (by cases image)⟩

end Sys2Proof.Machine
end

section
/-!
PROOFS. Chapters 10.1, 10.2 and 11.1: one step, frames as they are sent and received, and how a frame is served before its own
rule (R158 to R162, R174).
-/

namespace Sys2Proof.Machine

variable {s : State} {p : Port} {tag : Byte}

/-! ### One byte time of a port -/

theorem Incoming.set_get (i : Incoming) (p : Port) : i.set p (i.get p) = i := by cases p <;> rfl

theorem State.portByteTime_idle (response : (s.port p).response = none) (empty : s.incoming.get p = []) :
    s.portByteTime p = s := by
  unfold State.portByteTime; rw [response, empty]

theorem State.portByteTime_receives {v : Byte} {rest : List Byte} (response : (s.port p).response = none)
    (arrives : s.incoming.get p = v :: rest) :
    s.portByteTime p = State.receiveByte { s with incoming := s.incoming.set p (s.incoming.get p).tail } p v := by
  unfold State.portByteTime; rw [response, arrives]

/-- Port A sends only as the master clocks a byte in (R158). -/
theorem State.portByteTime_waits (pa : p = .a) (empty : s.incoming.a = []) {l : List Byte}
    (response : (s.port p).response = some l) : s.portByteTime p = s := by
  subst pa
  unfold State.portByteTime
  rw [response, show s.incoming.get .a = [] from empty]

theorem State.portByteTime_sends {l : List Byte} (response : (s.port p).response = some l)
    (clocked : p = .b ∨ s.incoming.get p ≠ []) :
    s.portByteTime p = State.sendByte { s with incoming := s.incoming.set p (s.incoming.get p).tail } p l := by
  unfold State.portByteTime
  rw [response]
  cases arrives : s.incoming.get p with
  | cons v rest => rfl
  | nil =>
    cases p with
    | a => exact absurd arrives (by simpa using clocked)
    | b => rw [List.tail_nil, ← arrives, Incoming.set_get, arrives]

/-! ### One step -/

/-- Settles O1. -/
theorem stepRunsTheFrontCommand : Obligations.StepRunsTheFrontCommand := by
  refine ⟨fun c rest s => rfl, fun s empty => by unfold step; rw [empty]; rfl, fun s empty quiet response => ?_⟩
  have idleA : s.portByteTime .a = s := by
    cases sends : s.portA.response with
    | none => exact State.portByteTime_idle sends (by rw [quiet]; rfl)
    | some l => exact State.portByteTime_waits rfl (by rw [quiet]) sends
  have idleB : s.portByteTime .b = s := State.portByteTime_idle response (by rw [quiet]; rfl)
  unfold step
  rw [empty]
  dsimp only [State.byteTime]
  rw [idleA, idleB]

/-! ### Frames -/

theorem byteSum_checked (l : List Byte) : byteSum (l ++ [checkByte l]) % 256 = 0 := by
  simp only [byteSum_append, byteSum_cons, byteSum_nil, checkByte, byte_toNat]; omega

/-- A frame byte by byte: 8 bytes before the payload, and the check byte after it (chapter 11.1). -/
theorem frameBytes_eq (tag a b c d : Byte) (payload : List Byte) : ∃ check, frameBytes tag [a, b, c, d] payload =
    syncByte :: tag :: a :: b :: c :: d :: byte (payload.length % 256) :: byte (payload.length / 256 % 256) ::
      (payload ++ [check]) :=
  ⟨checkByte _, by simp [frameBytes, leNat]; rfl⟩

theorem frameBytes_byteSum (tag : Byte) (name payload : List Byte) : byteSum (frameBytes tag name payload) % 256 = 0 :=
  byteSum_checked _

theorem Status.name_eq (st : Status) : ∃ a b c d, st.name = [a, b, c, d] := by cases st <;> exact ⟨_, _, _, _, rfl⟩

/-- Settles O3. -/
theorem responseFramesAreWellFormed : Obligations.ResponseFramesAreWellFormed := by
  intro tag st payload fits
  obtain ⟨a, b, c, d, name⟩ := st.name_eq
  obtain ⟨check, frame⟩ := frameBytes_eq tag a b c d payload
  refine ⟨responseFrame_length .., frameBytes_byteSum .., ?_⟩
  rw [responseFrame, name, frame]
  refine ⟨rfl, ?_, by simp⟩
  simp only [u16At, u8At_cons_succ, u8At_cons_zero, byte_toNat]
  omega

/-- The two bytes of a length read back (R174). -/
theorem length_bytes {n : Nat} (h : n ≤ 520) : (byte (n % 256)).toNat + 256 * (byte (n / 256 % 256)).toNat = n := by
  simp only [byte_toNat]; omega

section
variable {p : Port} {tag a b c d lo hi : Byte} {body : List Byte} {n : Nat}

/-- Eight bytes and a body that lacks the check byte or more are a frame in progress (R160). -/
theorem receiveFrame_part (length : lo.toNat + 256 * hi.toNat = n) (fits : n ≤ 520) (short : body.length < n + 1) :
    receiveFrame p (syncByte :: tag :: a :: b :: c :: d :: lo :: hi :: body) = .incomplete := by
  have long : ¬520 < n := by omega
  simp only [receiveFrame, length, ne_eq, not_true_eq_false, if_false, if_neg long, if_pos short]

/-- Eight bytes, a payload and a check byte with a byte sum of 0 modulo 256 are a request (R160, R161). -/
theorem receiveFrame_whole (length : lo.toNat + 256 * hi.toNat = n) (fits : n ≤ 520) (whole : body.length = n + 1)
    (sum : byteSum (syncByte :: tag :: a :: b :: c :: d :: lo :: hi :: body) % 256 = 0) :
    receiveFrame p (syncByte :: tag :: a :: b :: c :: d :: lo :: hi :: body) =
      .command (requestCommand p tag [a, b, c, d] (body.take n)) := by
  have long : ¬520 < n := by omega
  simp only [receiveFrame, length, ne_eq, not_true_eq_false, if_false, if_neg long, whole, lt_irrefl, if_pos sum]

end

/-- The receiver reads a whole frame of a payload that fits as the command its name stands for (R160, R161). -/
theorem receiveFrame_frameBytes (p : Port) (tag a b c d : Byte) {payload : List Byte} (fits : payload.length ≤ 520) :
    receiveFrame p (frameBytes tag [a, b, c, d] payload) = .command (requestCommand p tag [a, b, c, d] payload) := by
  have sum := frameBytes_byteSum tag [a, b, c, d] payload
  obtain ⟨check, frame⟩ := frameBytes_eq tag a b c d payload
  rw [frame] at sum ⊢
  rw [receiveFrame_whole (length_bytes fits) fits (by simp) sum, List.take_left' rfl]

/-- A part of a frame is a frame in progress (R160). -/
theorem receiveFrame_take (p : Port) (tag a b c d : Byte) {payload : List Byte} (fits : payload.length ≤ 520) {n : Nat}
    (part : n < (frameBytes tag [a, b, c, d] payload).length) :
    receiveFrame p ((frameBytes tag [a, b, c, d] payload).take n) = .incomplete := by
  obtain ⟨check, frame⟩ := frameBytes_eq tag a b c d payload
  rw [frame] at part ⊢
  by_cases header : n < 8
  · interval_cases n <;> simp [receiveFrame]
  · obtain ⟨m, rfl⟩ : ∃ m, n = m + 8 := ⟨n - 8, by omega⟩
    simp only [List.length_cons, List.length_append, List.length_nil] at part
    exact receiveFrame_part (length_bytes fits) fits (by simp; omega)

/-! ### The command of a name -/

/-- The name of a request of the manual, with its payload, is that request's command (R161). -/
theorem requestCommand_of_request {i : Instr} {name : List Byte} (request : i.request = some (p, tag, name))
    (wf : i.wellFormed = true) : ∃ a b c d l, name = [a, b, c, d] ∧ i.payload = some l ∧ l.length ≤ 520 ∧
      requestCommand p tag name l = i := by
  rw [Instr.wellFormed, Bool.and_eq_true] at wf
  obtain ⟨fits, operands⟩ := wf
  cases i <;> cases request
  case unknownRequest.refl l =>
    simp only [Instr.operandsOk, Bool.and_eq_true, decide_eq_true_eq, Bool.not_eq_true', requestNames] at operands
    obtain ⟨four, unlisted⟩ := operands
    match name, four with
    | [a, b, c, d], _ =>
      refine ⟨a, b, c, d, l, rfl, rfl, by simpa [payloadFits, Instr.payload] using fits, ?_⟩
      simp only [List.contains_eq_mem, List.mem_cons, List.not_mem_nil, or_false, decide_eq_false_iff_not, not_or] at unlisted
      simp only [requestCommand, unlisted, if_false]
  all_goals
    exact ⟨_, _, _, _, _, rfl, rfl, by simpa [payloadFits, Instr.payload] using fits, rfl⟩

/-! ### A frame clocked in -/

/-- A byte time that takes a byte, by what the receiver makes of the run (R158, R160). -/
theorem State.portByteTime_taken {v : Byte} {rest : List Byte} (response : (s.port p).response = none)
    (arrives : s.incoming.get p = v :: rest) :
    s.portByteTime p =
      { s.setPort p { s.port p with
          received := receivedAfter p ((s.port p).received ++ [v])
          driven := if p = .a then some fillByte else (s.port p).driven } with
        incoming := s.incoming.set p rest
        pending := s.pending ++ commandsOf p ((s.port p).received ++ [v]) } := by
  rw [State.portByteTime_receives response arrives, arrives]
  cases p <;> rfl

theorem receivedAfter_incomplete {l : List Byte} (h : receiveFrame p l = .incomplete) :
    receivedAfter p l = l ∧ commandsOf p l = [] := by simp [receivedAfter, commandsOf, h]

theorem receivedAfter_command {l : List Byte} {c : Instr} (h : receiveFrame p l = .command c) :
    receivedAfter p l = [] ∧ commandsOf p l = [c] := by simp [receivedAfter, commandsOf, h]

theorem receivedAfter_over {l : List Byte} (h : receiveFrame p l = .skipped ∨ receiveFrame p l = .trailing) :
    receivedAfter p l = [] ∧ commandsOf p l = [] := by rcases h with h | h <;> simp [receivedAfter, commandsOf, h]

/-- The state in the midst of a frame: a run of bytes received, the rest on its way. -/
def State.midFrame (s : State) (p : Port) (driven : Option Byte) (run rest : List Byte) : State :=
  { s.setPort p { s.port p with received := run, driven := driven } with incoming := s.incoming.set p rest }

/-- What a port drives after a byte time that takes a byte (R158). -/
def State.drivenAfter (s : State) (p : Port) : Option Byte := if p = .a then some fillByte else (s.port p).driven

section
variable {driven : Option Byte} {run rest : List Byte} {v : Byte}

theorem State.midFrame_next (response : (s.port p).response = none)
    (holds : driven = (s.port p).driven ∨ driven = s.drivenAfter p) :
    (s.midFrame p driven run (v :: rest)).portByteTime p =
      { s.midFrame p (s.drivenAfter p) (receivedAfter p (run ++ [v])) rest with
        pending := s.pending ++ commandsOf p (run ++ [v]) } := by
  rw [State.portByteTime_taken (v := v) (rest := rest)
    (by cases p <;> exact response) (by cases p <;> rfl)]
  cases p
  · rfl
  · have same : driven = s.portB.driven := by simpa [State.drivenAfter] using holds
    subst same
    rfl

/-- A part of a frame clocked in, of which every part is a frame in progress. -/
theorem State.midFrame_run {frame : List Byte} (response : (s.port p).response = none)
    (parts : ∀ n, n < frame.length → receiveFrame p (frame.take n) = .incomplete) (k : Nat) (hk : k + 1 < frame.length) :
    (fun u => u.portByteTime p)^[k + 1] (s.midFrame p (s.port p).driven [] (frame ++ rest)) =
      s.midFrame p (s.drivenAfter p) (frame.take (k + 1)) (frame.drop (k + 1) ++ rest) := by
  have step (k : Nat) (hk : k + 1 < frame.length) {driven : Option Byte}
      (holds : driven = (s.port p).driven ∨ driven = s.drivenAfter p) :
      (s.midFrame p driven (frame.take k) (frame.drop k ++ rest)).portByteTime p =
        s.midFrame p (s.drivenAfter p) (frame.take (k + 1)) (frame.drop (k + 1) ++ rest) := by
    obtain ⟨received, none_more⟩ := receivedAfter_incomplete (parts (k + 1) hk)
    have more := List.take_concat_get' frame k (by omega)
    rw [List.drop_eq_getElem_cons (by omega), List.cons_append, State.midFrame_next response holds, more, received, none_more,
      List.append_nil]
    cases p <;> rfl
  induction k with
  | zero => exact step 0 hk (.inl rfl)
  | succ k ih => rw [Function.iterate_succ_apply', ih (by omega), step (k + 1) hk (.inr rfl)]

/-- A frame clocked in byte by byte puts its command among those waiting, and nothing else (R160, R161). -/
theorem State.portByteTime_frame {frame : List Byte} {c : Instr} (response : (s.port p).response = none)
    (received : (s.port p).received = []) (arrives : s.incoming.get p = frame ++ rest) (long : 2 ≤ frame.length)
    (parts : ∀ n, n < frame.length → receiveFrame p (frame.take n) = .incomplete) (whole : receiveFrame p frame = .command c) :
    (fun u => u.portByteTime p)^[frame.length] s =
      { s.setPort p { s.port p with driven := s.drivenAfter p } with
        incoming := s.incoming.set p rest, pending := s.pending ++ [c] } := by
  have start : s = s.midFrame p (s.port p).driven [] (frame ++ rest) := by
    rw [State.midFrame, ← received, ← arrives, Incoming.set_get]
    cases p <;> rfl
  obtain ⟨m, hm⟩ : ∃ m, frame.length = m + 2 := ⟨frame.length - 2, by omega⟩
  have last : frame.take (m + 1) ++ [frame[m + 1]] = frame := by
    rw [List.take_concat_get' frame (m + 1) (by omega), ← hm, List.take_length]
  obtain ⟨none_left, command⟩ := receivedAfter_command whole
  conv_lhs => rw [start]
  rw [hm, Function.iterate_succ_apply', State.midFrame_run response parts m (by omega),
    List.drop_eq_getElem_cons (by omega), List.drop_of_length_le (by omega), List.cons_append, List.nil_append,
    State.midFrame_next response (.inr rfl), last, none_left, command, ← received]
  cases p <;> rfl

end

theorem receiveFrame_hunting (p : Port) (v : Byte) (h : v ≠ syncByte) : receiveFrame p [v] = .skipped := by
  simp [receiveFrame, h]

/-- Settles O4. -/
theorem framesAreReceivedAsSent : Obligations.FramesAreReceivedAsSent := by
  refine ⟨fun i p tag name request wf => ?_, fun p => ⟨rfl, receiveFrame_hunting p⟩, fun s t p ht => ?_⟩
  · obtain ⟨a, b, c, d, l, rfl, payload, fits, command⟩ := requestCommand_of_request request wf
    have frame : i.frame = frameBytes tag [a, b, c, d] l := by rw [Instr.frame, request, payload]; rfl
    have whole : receiveFrame p i.frame = .command i := by rw [frame, receiveFrame_frameBytes p tag a b c d fits, command]
    have parts (n : Nat) (hn : n < i.frame.length) : receiveFrame p (i.frame.take n) = .incomplete := by
      rw [frame] at hn ⊢; exact receiveFrame_take p tag a b c d fits hn
    have long : 2 ≤ i.frame.length := by rw [frame]; simp [frameBytes]
    exact ⟨whole, parts, fun s rest response received arrives =>
      State.portByteTime_frame response received arrives long parts whole⟩
  · subst ht
    refine ⟨State.portByteTime_idle, ?_, ?_⟩
    · rintro v l rest d response arrives rfl rfl
      have taken := State.portByteTime_taken response arrives
      rw [arrives, List.tail_cons]
      refine ⟨fun part => ?_, fun ends => ?_, fun c whole => ?_⟩
      · obtain ⟨received, commands⟩ := receivedAfter_incomplete part
        rw [taken, received, commands, List.append_nil]; cases p <;> rfl
      · obtain ⟨received, commands⟩ := receivedAfter_over ends
        rw [taken, received, commands, List.append_nil]; cases p <;> rfl
      · obtain ⟨received, commands⟩ := receivedAfter_command whole
        rw [taken, received, commands]; cases p <;> rfl
    · rintro l q response rfl
      refine ⟨fun pa empty => State.portByteTime_waits pa empty response, fun clocked => ?_⟩
      have sends := State.portByteTime_sends response clocked
      refine ⟨fun more => ?_, fun last => ?_⟩
      · rw [sends, State.sendByte]
        cases p <;> exact if_neg (by simpa using more)
      · rw [sends, State.sendByte]
        cases p <;> exact if_pos (by simpa using last)

/-! ### How a frame is served -/

/-- A port with a response not yet sent in full ignores every frame (R162). -/
theorem State.serveAlways_answering (h : (s.port p).response ≠ none) (rule : State → Reply) :
    s.serveAlways p tag rule = s := by
  simp [State.serveAlways, State.answering, Option.isSome_iff_ne_none, h]

theorem exec_request_answering {c : Instr} {name : List Byte} (request : c.request = some (p, tag, name))
    (h : (s.port p).response ≠ none) : exec c s = .next s := by
  rw [exec_of_request request, State.serve, State.serveAlways_answering h, State.serveAlways_answering h, ite_self]

/-- A request that a port takes by its own rule. -/
theorem exec_replies {c : Instr} {name : List Byte} (request : c.request = some (p, tag, name)) (takes : s.takes p) {r : Reply}
    (rule : requestRule c s = r) : exec c s = .next (r.state.answer p tag r.status r.payload) := by
  rw [exec_of_request request, State.serve_taken takes, State.serveAlways_taken takes.1, ite_self, rule]

theorem exec_request_starting {c : Instr} {name : List Byte} (request : c.request = some (p, tag, name))
    (busy : c.startsBusy = true) (idle : (s.port p).response = none) (phase : s.startUp.phase ≠ .ready) :
    exec c s = .next (s.answer p tag .busy (u8 BusyCause.starting.code ++ u8 s.startUp.phase.code)) := by
  rw [exec_of_request request, if_pos busy, State.serve, State.serveAlways_taken idle, if_neg phase]
  rfl

/-- A request of a fixed length refuses every other with ARGS (R161). -/
theorem requestRule_of_wrong_length {c : Instr} {l : List Byte} {n : Nat} (payload : c.payload = some l)
    (fixed : c.fixedLength = some n) (wrong : l.length ≠ n) (s : State) : requestRule c s = s.refuse .args := by
  cases c <;> cases payload <;> cases fixed <;> exact if_neg wrong

/-- Settles O5. -/
theorem framesAreServedInOrder : Obligations.FramesAreServedInOrder := by
  refine ⟨fun s p answering => ⟨fun c tag name request => exec_request_answering request answering, fun tag n => ?_,
    fun tag => congrArg Host.Outcome.next (State.serveAlways_answering answering _)⟩,
    fun c s p tag name request busy idle phase => ?_, fun s p tag takes => ⟨?_, fun l long => ?_, fun l listed => ?_⟩⟩
  · change Host.Outcome.next _ = _
    rw [State.serveAlways_answering answering, ite_self]
  · rw [exec_request_starting request busy idle phase]
    cases s.startUp.phase <;> rfl
  · intro c name l n request payload fixed wrong
    exact exec_replies request takes (requestRule_of_wrong_length payload fixed wrong s)
  · have refused : peerReply p l s = s.refuse .args := if_neg (by omega)
    exact exec_replies (c := .peer p tag l) rfl takes refused
  · have refused : mdwrReply l s = s.refuse .args := if_neg (by simpa [mdwrLengths] using listed)
    exact exec_replies (c := .mdwr p tag l) rfl takes refused

/-- Settles O8. -/
theorem framesThatAreNoRequest : Obligations.FramesThatAreNoRequest := by
  refine ⟨fun s p tag idle => ⟨fun name l => ?_, fun n => ?_, ?_⟩, fun s => ⟨rfl, rfl, rfl⟩⟩
  · exact congrArg Host.Outcome.next (State.serveAlways_taken idle tag _)
  · have answered := State.serveAlways_taken idle tag (framReply 0)
    change Host.Outcome.next (if 520 < n.toNat then s.serveAlways p tag (framReply 0) else s) = _
    rw [answered]; rfl
  · exact congrArg Host.Outcome.next (State.serveAlways_taken idle tag (framReply 1))

/-! ### Postings -/

theorem heldSucc_eq (n : Nat) : heldSucc n = min (n + 1) 255 := by unfold heldSucc; split <;> omega

/-- Settles O9. -/
theorem postingsCountAndReplace : Obligations.PostingsCountAndReplace := by
  refine ⟨fun q d => ⟨⟨?_, ?_, fun f other => ?_⟩, rfl, rfl, rfl, rfl, rfl, rfl, q.post_follows d, ?_⟩, fun s d => rfl⟩
  · rw [PortState.post_flags, PerFlag.get_set_same, heldSucc_eq]
  · rw [PortState.post_flags, PerFlag.get_set_same]
  · rw [PortState.post_flags, PerFlag.get_set_other _ _ other]
  · simp [PortState.post, heldSucc_eq]

end Sys2Proof.Machine
end

section
/-!
PROOFS. Chapters 10.3 to 10.5 and 11.3: the bytes of the event details, EVRD and EVAK, EVCF, PEER and the attention pulse (R163
to R169).
-/

namespace Sys2Proof.Machine

variable {s : State} {p : Port} {tag : Byte}

/-! ### Fields written -/

theorem u8_eq (n : Nat) : u8 n = [byte n] := by
  simp [leNat, byte, ← BitVec.toNat_inj]

theorem mark_eq (b : Bool) : mark b = [if b then 1 else 0] := by cases b <;> rfl

theorem u16At_last_of_le {n : Nat} (h : n ≤ 65535) : u16At (u16 n) 0 = n := by simpa using u16At_of_le h []

theorem leNat_add (w v : Nat) : ∀ n, leNat (w + v) n = leNat w n ++ leNat v (n / 256 ^ w) := by
  induction w with
  | zero => simp [leNat]
  | succ w ih =>
    intro n
    rw [Nat.succ_add, leNat, leNat, ih, List.cons_append, Nat.div_div_eq_div_mul, pow_succ']

theorem u64_eq (n : Nat) : u64 n = u32 n ++ u32 (n / 4294967296) := leNat_add 4 4 n

/-- A signed 64-bit field read back as its two halves (R175). -/
theorem s64_halves (v : Int) :
    ((u32At (s64 v) 0 + 4294967296 * u32At (s64 v) 4 : Nat) : Int) = v % 18446744073709551616 := by
  have halves (n : Nat) (h : n < 18446744073709551616) : u32At (u64 n) 0 + 4294967296 * u32At (u64 n) 4 = n := by
    have high := u32At_u32 (n / 4294967296) []
    rw [List.append_nil] at high
    rw [u64_eq, u32At_u32, u32At_append_right (by simp), leNat_length, Nat.sub_self, high]
    omega
  rw [s64, leInt, show leNat 8 = u64 from rfl, halves _ (by norm_num; omega)]
  norm_num
  omega

/-! ### Details (chapter 11.3) -/

theorem Detail.rdon_bytes {l : List Byte} {ticket occ accepted attempts : Nat} {o : RdonOutcome} {c : Option RdonCause}
    (ht : ticket ≤ 65535) (ho : occ ≤ 4294967295) (ha : accepted ≤ 255) (hn : attempts ≤ 255)
    (h : l = Detail.bytes (.rdon ticket o c occ accepted attempts)) :
    l.length = 10 ∧ u16At l 0 = ticket ∧ u8At l 2 = o.code ∧ u8At l 3 = RdonCause.code c ∧ u32At l 4 = occ ∧
      u8At l 8 = accepted ∧ u8At l 9 = attempts := by
  have outcome : o.code ≤ 255 := by cases o <;> decide
  have cause : RdonCause.code c ≤ 255 := by rcases c with _ | c <;> [decide; cases c <;> decide]
  subst h
  simp [Detail.bytes, u16At_of_le ht, u8At_of_le outcome, u8At_of_le cause, u32At_of_le ho, u8At_of_le ha, u8At_last_of_le hn]

theorem Detail.levl_bytes {l : List Byte} {st : LevelState} {c : LevlCause} {tilts : Option Tilts}
    (h : l = Detail.bytes (.levl st c tilts)) :
    l.length = 11 ∧ u8At l 0 = st.code ∧ u8At l 1 = c.code ∧ (tilts = none → l.drop 2 = List.replicate 9 0) ∧
      ∀ t, tilts = some t → Signed32 t.x → Signed32 t.y → u8At l 2 = 1 ∧ s32At l 3 = t.x ∧ s32At l 7 = t.y := by
  have state : st.code ≤ 255 := by cases st <;> decide
  have cause : c.code ≤ 255 := by cases c <;> decide
  subst h
  refine ⟨?_, ?_, ?_, ?_, ?_⟩
  · cases tilts <;> simp [Detail.bytes, bare]
  · simp [Detail.bytes, u8At_of_le state]
  · simp [Detail.bytes, u8At_of_le cause]
  · rintro rfl; cases st <;> cases c <;> rfl
  · rintro t rfl x y
    have one : u8At (mark true) 0 = 1 := rfl
    simp [Detail.bytes, bare, mark, s32At_of_signed x, s32At_last_of_signed y]

theorem Detail.mode_bytes {l : List Byte} {k : ModeKind} {m : Mode} {gen : Nat} (hg : gen ≤ 65535)
    (h : l = Detail.bytes (.mode k m gen)) :
    l.length = 4 ∧ u8At l 0 = k.code ∧ u8At l 1 = Mode.code m ∧ u16At l 2 = gen := by
  have kind : k.code ≤ 255 := by cases k <;> decide
  have mode : Mode.code m ≤ 255 := by cases m <;> decide
  subst h
  simp [Detail.bytes, u8At_of_le kind, u8At_of_le mode, u16At_last_of_le hg]

/-- The byte of a tick's move, as the CLCK detail carries it (chapter 11.3). -/
def advancedCode : Option Bool → Nat
  | none => 0
  | some false => 1
  | some true => 2

theorem Detail.clck_bytes {l : List Byte} {k : ClckKind} {d : Discipline} {c : Option ClckCause} {advanced : Option Bool}
    {seconds : Nat} {move : Option Int} (hs : seconds ≤ 4294967295) (h : l = Detail.bytes (.clck k d c advanced seconds move)) :
    l.length = 16 ∧ u8At l 0 = k.code ∧ u8At l 1 = d.code ∧ u8At l 2 = ClckCause.code c ∧ u8At l 3 = advancedCode advanced ∧
      u32At l 4 = seconds ∧
      ((u32At l 8 + 4294967296 * u32At l 12 : Nat) : Int) = move.getD 0 % 18446744073709551616 := by
  have kind : k.code ≤ 255 := by cases k <;> decide
  have discipline : d.code ≤ 255 := by cases d <;> decide
  have cause : ClckCause.code c ≤ 255 := by rcases c with _ | c <;> [decide; cases c <;> decide]
  have step : advancedCode advanced ≤ 255 := by rcases advanced with _ | _ | _ <;> decide
  have bytes : l = u8 k.code ++ u8 d.code ++ u8 (ClckCause.code c) ++ u8 (advancedCode advanced) ++ u32 seconds ++
      s64 (move.getD 0) := by rcases advanced with _ | _ | _ <;> exact h
  subst bytes
  have halves := s64_halves (move.getD 0)
  simp only [List.append_assoc]
  refine ⟨by simp, by simp [u8At_of_le kind], by simp [u8At_of_le discipline], by simp [u8At_of_le cause],
    by simp [u8At_of_le step], by simp [u32At_of_le hs], ?_⟩
  simpa using halves

/-- The presence byte of two optional fields (R175). -/
theorem presence_pair {α β : Type} (x : Option α) (y : Option β) : presence [x.isSome, y.isSome] ≤ 255 := by
  cases x <;> cases y <;> simp [presence]

theorem bare_some_or_zero {α : Type} {enc : α → List Byte} {w : Nat} {z : α} (zero : enc z = leNat w 0) (o : Option α) :
    bare enc w o = enc (o.getD z) := by cases o <;> simp [bare, zero]

theorem Detail.arch_bytes {l : List Byte} {k : ArchKind} {st : ArchiveState} {occ page : Option Nat} {write waiting : Nat}
    (ho : ∀ n, occ = some n → n ≤ 4294967295) (hp : ∀ n, page = some n → n ≤ 65535) (hw : write ≤ 65535) (hq : waiting ≤ 255)
    (h : l = Detail.bytes (.arch k st occ page write waiting)) :
    l.length = 12 ∧ u8At l 0 = k.code ∧ u8At l 1 = st.code ∧ u8At l 2 = presence [occ.isSome, page.isSome] ∧
      u8At l 3 = waiting ∧ u32At l 4 = occ.getD 0 ∧ u16At l 8 = page.getD 0 ∧ u16At l 10 = write := by
  have kind : k.code ≤ 255 := by cases k <;> decide
  have state : st.code ≤ 255 := by cases st <;> decide
  have occ_le : occ.getD 0 ≤ 4294967295 := by cases occ <;> [exact Nat.zero_le _; exact ho _ rfl]
  have page_le : page.getD 0 ≤ 65535 := by cases page <;> [exact Nat.zero_le _; exact hp _ rfl]
  subst h
  rw [Detail.bytes, bare_some_or_zero (enc := u32) (z := 0) rfl, bare_some_or_zero (enc := u16) (z := 0) rfl]
  simp [u8At_of_le kind, u8At_of_le state, u8At_of_le (presence_pair occ page), u8At_of_le hq, u32At_of_le occ_le,
    u16At_of_le page_le, u16At_last_of_le hw]

theorem Detail.thrm_bytes {l : List Byte} {w : WindowState} {c : ThrmCause} {temp base : Option Int}
    (ht : ∀ v, temp = some v → Signed32 v) (hb : ∀ v, base = some v → Signed32 v) (h : l = Detail.bytes (.thrm w c temp base)) :
    l.length = 11 ∧ u8At l 0 = w.code ∧ u8At l 1 = c.code ∧ u8At l 2 = presence [temp.isSome, base.isSome] ∧
      s32At l 3 = temp.getD 0 ∧ s32At l 7 = base.getD 0 := by
  have state : w.code ≤ 255 := by cases w <;> decide
  have cause : c.code ≤ 255 := by cases c <;> decide
  have temp_in : Signed32 (temp.getD 0) := by cases temp <;> [decide; exact ht _ rfl]
  have base_in : Signed32 (base.getD 0) := by cases base <;> [decide; exact hb _ rfl]
  subst h
  rw [Detail.bytes, bare_some_or_zero (enc := s32) (z := 0) rfl temp, bare_some_or_zero (enc := s32) (z := 0) rfl base]
  simp [u8At_of_le state, u8At_of_le cause, u8At_of_le (presence_pair temp base), s32At_of_signed temp_in,
    s32At_last_of_signed base_in]

theorem Detail.rset_bytes {l : List Byte} {c : ResetCause} {m : Mode} {gen : Nat} (hg : gen ≤ 65535)
    (h : l = Detail.bytes (.rset c m gen)) :
    l.length = 5 ∧
      ((c = .power ∧ u8At l 0 = 0 ∧ u8At l 1 = 2) ∨ (c = .line ∧ u8At l 0 = 1 ∧ u8At l 1 = 2) ∨
        (c = .restart .a ∧ u8At l 0 = 2 ∧ u8At l 1 = 0) ∨ (c = .restart .b ∧ u8At l 0 = 2 ∧ u8At l 1 = 1)) ∧
      u8At l 2 = Mode.code m ∧ u16At l 3 = gen := by
  have mode : Mode.code m ≤ 255 := by cases m <;> decide
  subst h
  rcases c with _ | _ | _ | _ <;>
    simp [Detail.bytes, ResetCause.code, ResetCause.port, Port.code, u8At_of_le mode, u16At_last_of_le hg]

/-! ### EVRD -/

/-- A mark's byte. -/
theorem PortConfig.bytes_eq (c : PortConfig) : c.bytes =
    [c.mask.rdon, c.mask.levl, c.mask.mode, c.mask.clck, c.mask.arch, c.mask.peer, c.mask.thrm, c.mask.rset].map
      (fun on => if on then 1 else 0) ++
    [if c.policy = .readClears then 0 else 1, if c.line = .level then 0 else 1] := by
  obtain ⟨mask, policy, line⟩ := c
  have marks (l : List Bool) : l.flatMap mark = l.map (fun on => if on then 1 else 0) := by
    induction l with
    | nil => rfl
    | cons on l ih => rw [List.flatMap_cons, ih, mark_eq]; rfl
  rw [PortConfig.bytes, marks, List.append_assoc]
  cases policy <;> cases line <;> rfl

theorem Flag.bytes_eq (f : Flag) : f.bytes =
    [byte f.count, byte ((f.detail.map Detail.bytes).getD []).length] ++ (f.detail.map Detail.bytes).getD [] := by
  rw [Flag.bytes, u8_eq, u8_eq]
  cases f.detail <;> rfl

theorem PortState.flagBytes_eq (q : PortState) : q.flagBytes = q.config.bytes ++
    [EventFlag.rdon, .levl, .mode, .clck, .arch, .peer, .thrm, .rset].flatMap fun f =>
      [byte (q.flags.get f).count, byte (((q.flags.get f).detail.map Detail.bytes).getD []).length] ++
        ((q.flags.get f).detail.map Detail.bytes).getD [] := by
  simp only [PortState.flagBytes, PerFlag.toList, List.flatMap_cons, List.flatMap_nil, Flag.bytes_eq, PerFlag.get]

/-- With every count at 0 the line is released (R164, R165). -/
theorem PortState.clearCounts_atn (q : PortState) : q.clearCounts.atn = false := by
  have follows := q.clearCounts_follows
  unfold PortState.LineFollows at follows
  split at follows
  · rw [← Bool.not_eq_true, follows]
    simp [PortState.clearCounts]
  · exact follows

theorem exec_evrd_explicit (takes : s.takes p) (policy : (s.port p).config.policy = .explicit) :
    exec (.evrd p tag []) s = .next (s.answer p tag .okay (s.port p).flagBytes) := by
  have rule : evrdReply p [] s = ⟨.okay, (s.port p).flagBytes, s⟩ := by simp [evrdReply, policy]
  exact exec_replies (c := .evrd p tag []) rfl takes rule

theorem exec_evrd_readClears (takes : s.takes p) (policy : (s.port p).config.policy = .readClears) :
    exec (.evrd p tag []) s =
      .next ((s.setPort p (s.port p).clearCounts).answer p tag .okay (s.port p).flagBytes) := by
  have rule : evrdReply p [] s = ⟨.okay, (s.port p).flagBytes, s.setPort p (s.port p).clearCounts⟩ := by
    simp [evrdReply, policy]
  exact exec_replies (c := .evrd p tag []) rfl takes rule

/-! ### EVAK -/

theorem exec_evak {l : List Byte} {f : EventFlag} (takes : s.takes p) (length : l.length = 2)
    (flag : EventFlag.ofCode (u8At l 0) = some f) {q : PortState} (hq : q = (s.port p).acknowledge f (u8At l 1)) :
    exec (.evak p tag l) s = .next ((s.setPort p q).answer p tag .okay [byte (q.flags.get f).count]) := by
  subst hq
  have rule : evakReply p l s = ⟨.okay, u8 (((s.port p).acknowledge f (u8At l 1)).flags.get f).count,
      s.setPort p ((s.port p).acknowledge f (u8At l 1))⟩ := by
    simp [evakReply, length, flag]
  rw [u8_eq] at rule
  exact exec_replies (c := .evak p tag l) rfl takes rule

theorem EventFlag.ofCode_eq_none {n : Nat} (h : 8 ≤ n) : EventFlag.ofCode n = none := by
  unfold EventFlag.ofCode
  split <;> first | omega | rfl

theorem exec_evak_refused {l : List Byte} (takes : s.takes p) (length : l.length = 2) (h : 8 ≤ u8At l 0) :
    exec (.evak p tag l) s = .next (s.answer p tag .args []) := by
  have rule : evakReply p l s = s.refuse .args := by simp [evakReply, length, EventFlag.ofCode_eq_none h]
  exact exec_replies (c := .evak p tag l) rfl takes rule

theorem PortState.acknowledge_flags (q : PortState) (f : EventFlag) (n : Nat) : (q.acknowledge f n).flags =
    q.flags.set f { q.flags.get f with count := (q.flags.get f).count - min (q.flags.get f).count n } := rfl

/-- Settles O11. -/
theorem flagsAreReadAndAcknowledged : Obligations.FlagsAreReadAndAcknowledged := by
  refine ⟨fun l ticket occ accepted attempts o c ht ho ha hn h => ?_, fun l st c tilts h => ?_, fun l k m gen hg h => ?_,
    fun l k d c advanced seconds move hs h => ?_, fun l k st occ page write waiting ho hp hw hq h => ?_,
    fun sender note => ?_, fun l w c temp base ht hb h => ?_, fun l c m gen hg h => ?_,
    fun s p tag takes => ⟨?_, fun l length => ⟨fun f flag => ?_, exec_evak_refused takes length⟩⟩⟩
  · have bytes := Detail.rdon_bytes ht ho ha hn h
    rcases o with _ | _ | _ | _ <;> rcases c with _ | _ | _ | _ | _ <;> exact bytes
  · have bytes := Detail.levl_bytes h
    cases st <;> cases c <;> exact bytes
  · have bytes := Detail.mode_bytes hg h
    cases k <;> cases m <;> exact bytes
  · have bytes := Detail.clck_bytes hs h
    cases k <;> cases d <;> rcases c with _ | _ | _ | _ <;> rcases advanced with _ | _ | _ <;> exact bytes
  · have bytes := Detail.arch_bytes ho hp hw hq h
    cases k <;> cases st <;> cases occ <;> cases page <;> exact bytes
  · cases sender <;> rfl
  · have bytes := Detail.thrm_bytes ht hb h
    cases w <;> cases c <;> cases temp <;> cases base <;> exact bytes
  · have bytes := Detail.rset_bytes hg h
    cases m <;> exact bytes
  · rintro c report rfl rfl
    rw [← PortConfig.bytes_eq, ← PortState.flagBytes_eq]
    refine ⟨exec_evrd_explicit takes, fun policy => ⟨_, exec_evrd_readClears takes policy, fun f => ?_, rfl, rfl, rfl, rfl,
      PortState.clearCounts_atn _⟩⟩
    simp [PortState.clearCounts]
  · refine ⟨_, exec_evak takes length flag rfl, ?_, ?_, fun g other => ?_, rfl, rfl, rfl, rfl,
      PortState.acknowledge_follows ..⟩ <;> rw [PortState.acknowledge_flags]
    · rw [PerFlag.get_set_same]
    · rw [PerFlag.get_set_same]
    · rw [PerFlag.get_set_other _ _ other]

/-! ### EVCF -/

theorem markAt_of_le {l : List Byte} {i : Nat} (h : u8At l i ≤ 1) : markAt l i = some (decide (u8At l i = 1)) := by
  rcases Nat.le_one_iff_eq_zero_or_eq_one.mp h with e | e <;> simp [markAt, e]

theorem policyAt_of_le {l : List Byte} {i : Nat} (h : u8At l i ≤ 1) :
    policyAt l i = some (if u8At l i = 0 then .readClears else .explicit) := by
  rcases Nat.le_one_iff_eq_zero_or_eq_one.mp h with e | e <;> simp [policyAt, e]

theorem lineModeAt_of_le {l : List Byte} {i : Nat} (h : u8At l i ≤ 1) :
    lineModeAt l i = some (if u8At l i = 0 then .level else .pulse) := by
  rcases Nat.le_one_iff_eq_zero_or_eq_one.mp h with e | e <;> simp [lineModeAt, e]

theorem policyAt_of_lt {l : List Byte} {i : Nat} (h : 1 < u8At l i) : policyAt l i = none := by
  unfold policyAt
  split <;> first | omega | rfl

theorem lineModeAt_of_lt {l : List Byte} {i : Nat} (h : 1 < u8At l i) : lineModeAt l i = none := by
  unfold lineModeAt
  split <;> first | omega | rfl

/-- The configuration that ten bytes of 0 and 1 carry (chapter 11.2.1). -/
def PortConfig.ofBytes (l : List Byte) : PortConfig :=
  { mask := ⟨u8At l 0 = 1, u8At l 1 = 1, u8At l 2 = 1, u8At l 3 = 1, u8At l 4 = 1, u8At l 5 = 1, u8At l 6 = 1, u8At l 7 = 1⟩
    policy := if u8At l 8 = 0 then .readClears else .explicit
    line := if u8At l 9 = 0 then .level else .pulse }

theorem PortConfig.parse_of_le {l : List Byte} (h : ∀ i, i < 10 → u8At l i ≤ 1) :
    PortConfig.parse l = some (PortConfig.ofBytes l) := by
  have mark (i : Nat) (hi : i < 10) := markAt_of_le (h i hi)
  simp [PortConfig.parse, maskAt, mark, policyAt_of_le (h 8 (by omega)), lineModeAt_of_le (h 9 (by omega)), PortConfig.ofBytes]

theorem maskAt_eq_none {l : List Byte} {i : Nat} (hi : i < 8) (h : 1 < u8At l i) : maskAt l = none := by
  have mark := markAt_eq_none.2 h
  cases some : maskAt l with
  | none => rfl
  | some m =>
    simp only [maskAt, Option.bind_eq_bind, Option.bind_eq_some_iff] at some
    obtain ⟨_, h0, _, h1, _, h2, _, h3, _, h4, _, h5, _, h6, _, h7, _⟩ := some
    interval_cases i <;> simp_all

theorem PortConfig.parse_eq_none {l : List Byte} (h : 1 < u8At l 8 ∨ 1 < u8At l 9 ∨ ∃ i, i < 8 ∧ 1 < u8At l i) :
    PortConfig.parse l = none := by
  rcases h with h | h | ⟨i, hi, h⟩
  · cases mask : maskAt l <;> simp [PortConfig.parse, policyAt_of_lt h, mask]
  · cases mask : maskAt l <;> cases policy : policyAt l 8 <;> simp [PortConfig.parse, lineModeAt_of_lt h, mask, policy]
  · simp [PortConfig.parse, maskAt_eq_none hi h]

/-- A byte of 0 or 1 is the byte of its mark. -/
theorem bit_eq {v : Byte} (h : v.toNat ≤ 1) : v = if v.toNat = 1 then 1 else 0 := by
  rw [← BitVec.toNat_inj]
  split
  next one => rw [one]; rfl
  next => have zero : v.toNat = 0 := by omega
          rw [zero]; rfl

theorem PortConfig.ofBytes_bytes {l : List Byte} (length : l.length = 10) (h : ∀ i, i < 10 → u8At l i ≤ 1) :
    (PortConfig.ofBytes l).bytes = l := by
  have bit (i : Nat) (hi : i < 10) : (if u8At l i = 1 then 1 else 0) = l.getD i 0 := (bit_eq (h i hi)).symm
  have policy : (if (PortConfig.ofBytes l).policy = .readClears then 0 else 1) = l.getD 8 0 := by
    rw [← bit 8 (by omega)]
    rcases Nat.le_one_iff_eq_zero_or_eq_one.mp (h 8 (by omega)) with e | e <;> simp [PortConfig.ofBytes, e]
  have line : (if (PortConfig.ofBytes l).line = .level then 0 else 1) = l.getD 9 0 := by
    rw [← bit 9 (by omega)]
    rcases Nat.le_one_iff_eq_zero_or_eq_one.mp (h 9 (by omega)) with e | e <;> simp [PortConfig.ofBytes, e]
  rw [PortConfig.bytes_eq, policy, line]
  simp only [PortConfig.ofBytes, List.map_cons, List.map_nil, decide_eq_true_eq,
    bit 0 (by omega), bit 1 (by omega), bit 2 (by omega), bit 3 (by omega), bit 4 (by omega), bit 5 (by omega),
    bit 6 (by omega), bit 7 (by omega)]
  match l, length with
  | [a, b, c, d, e, f, g, x, y, z], _ => rfl

theorem exec_evcf {l : List Byte} (takes : s.takes p) (length : l.length = 10) (h : ∀ i, i < 10 → u8At l i ≤ 1) :
    exec (.evcf p tag l) s =
      .next ((s.setPort p ((s.port p).configure (PortConfig.ofBytes l))).answer p tag .okay l) := by
  have rule : evcfReply p l s = ⟨.okay, (PortConfig.ofBytes l).bytes,
      s.setPort p ((s.port p).configure (PortConfig.ofBytes l))⟩ := by
    simp [evcfReply, length, PortConfig.parse_of_le h]
  rw [PortConfig.ofBytes_bytes length h] at rule
  exact exec_replies (c := .evcf p tag l) rfl takes rule

theorem exec_evcf_refused {l : List Byte} (takes : s.takes p) (length : l.length = 10)
    (h : 1 < u8At l 8 ∨ 1 < u8At l 9 ∨ ∃ i, i < 8 ∧ 1 < u8At l i) :
    exec (.evcf p tag l) s = .next (s.answer p tag .args []) := by
  have rule : evcfReply p l s = s.refuse .args := by simp [evcfReply, length, PortConfig.parse_eq_none h]
  exact exec_replies (c := .evcf p tag l) rfl takes rule

theorem PortState.configure_pulses (q : PortState) (l : List Byte) : (q.configure (PortConfig.ofBytes l)).pulses =
    if u8At l 9 = 0 then 0 else q.pulses := by
  by_cases level : u8At l 9 = 0 <;> simp [PortState.configure, PortConfig.ofBytes, level]

/-- Settles O12. -/
theorem portsAreConfiguredAndPulsed : Obligations.PortsAreConfiguredAndPulsed := by
  refine fun s p => ⟨fun tag takes => ⟨fun l length => ⟨fun h => ?_, exec_evcf_refused takes length⟩, fun l fits => ?_⟩, ?_⟩
  · exact ⟨_, exec_evcf takes length h, rfl, rfl, rfl, rfl, PortState.configure_pulses .., PortState.configure_follows ..⟩
  · have rule : peerReply p l s = ⟨.okay, [], s.post p.other (.peer p l)⟩ := if_pos fits
    exact exec_replies (c := .peer p tag l) rfl takes rule
  · change Host.Outcome.next (s.setPort p (s.port p).givePulse) = _
    unfold PortState.givePulse
    split
    · rfl
    · cases p <;> rfl

end Sys2Proof.Machine
end

section
/-!
PROOFS. Chapters 4.2 to 4.5, 10.6 and 10.7: resets and restarts, the ends of the start-up phases, ticks and CKST (R48, R49, R53,
R55, R56, R89, R90, R151, R156, R162, R170 to R173).
-/

namespace Sys2Proof.Machine

variable {s : State} {p : Port} {tag : Byte}

/-! ### POWER and LINE -/

theorem State.cutFlash_of_not_written (s : State) : s.cutFlash false = s.flash := rfl

theorem State.cutFlash_of_no_operation (program : s.archive.activity ≠ .program) (store : s.archive.activity ≠ .store) :
    s.cutFlash true = s.flash := by
  unfold State.cutFlash
  cases activity : s.archive.activity <;> simp_all

theorem State.cutFlash_of_store (store : s.archive.activity = .store) :
    s.cutFlash true = { s.flash with image := some ⟨s.model.groups, s.model.generation⟩ } := by
  simp [State.cutFlash, store]

theorem State.cutFlash_of_program (program : s.archive.activity = .program) {b : BufferId} {r : StagedRecord}
    (buffer : s.archive.programmingBuffer = some (b, r)) : s.cutFlash true = s.flash.commit s.archive.writePage r := by
  simp [State.cutFlash, program, buffer]

/-- Settles O13. -/
theorem powerAndLineResets : Obligations.PowerAndLineResets := by
  refine fun m s => ⟨s.cutFlash m, ?_, ?_, ?_, ?_, ?_⟩
  · rintro rfl; exact s.cutFlash_of_not_written
  · rintro rfl; exact State.cutFlash_of_no_operation
  · rintro rfl; exact State.cutFlash_of_store
  · rintro rfl program b r; exact State.cutFlash_of_program program
  · rintro c cause (⟨rfl, rfl⟩ | ⟨rfl, rfl⟩) <;> rfl

/-! ### RESTART -/

/-- With no count above zero the line is released, whatever the mode (R164, R165, R172). -/
theorem PortState.restarted_eq (q : PortState) : q.restarted =
    { q with received := [], response := none, sent := 0, flags := .all ⟨0, none⟩, pulses := 0, atn := false } := by
  obtain ⟨received, response, sent, driven, flags, ⟨mask, policy, line⟩, pulses, atn, given⟩ := q
  cases line
  · have quiet : PortState.raised ⟨[], none, 0, driven, .all ⟨0, none⟩, ⟨mask, policy, .level⟩, 0, atn, given⟩ = false := by
      rw [← Bool.not_eq_true, PortState.raised_iff]; simp
    rw [PortState.restarted, PortState.settle, quiet]
  · rfl

theorem execResponseSent_idle (h : (s.port p).response = none) : exec (.responseSent p) s = .next s := by
  change Host.Outcome.next _ = _
  rw [if_neg (by simp [State.answering, h])]

theorem State.restartingFor_iff : s.restartingFor p = true ↔ ∃ due, s.startUp.restart = some ⟨p, due⟩ := by
  unfold State.restartingFor
  split
  next timer running =>
    rw [running]
    obtain ⟨q, due⟩ := timer
    simp
  next none => simp [none]

theorem execResponseSent_ends (h : (s.port p).response ≠ none) (other : ∀ due, s.startUp.restart ≠ some ⟨p, due⟩) :
    exec (.responseSent p) s = .next (s.setPort p { s.port p with response := none, sent := 0 }) := by
  have quiet : ¬s.restartingFor p = true := by rw [State.restartingFor_iff]; simpa using other
  change Host.Outcome.next _ = _
  rw [if_pos (by simpa [State.answering, Option.isSome_iff_ne_none] using h)]
  dsimp only
  rw [if_neg quiet]

theorem execResponseSent_restarts {due : Nat} (h : (s.port p).response ≠ none) (running : s.startUp.restart = some ⟨p, due⟩) :
    exec (.responseSent p) s = .next ((s.setPort p { s.port p with response := none, sent := 0 }).restart p) := by
  have runs : s.restartingFor p = true := State.restartingFor_iff.2 ⟨due, running⟩
  change Host.Outcome.next _ = _
  rw [if_pos (by simpa [State.answering, Option.isSome_iff_ne_none] using h)]
  dsimp only
  rw [if_pos runs]

theorem execRestartTimerExpiry_restarts {due : Nat} (running : s.startUp.restart = some ⟨p, due⟩) (reached : due ≤ s.now) :
    exec .restartTimerExpiry s = .next (s.restart p) := by
  change execRestartTimerExpiry s = _
  unfold execRestartTimerExpiry
  rw [running]
  exact congrArg _ (if_pos (by simpa [State.reached] using reached))

/-- The restart does not depend on the response just ended (R172). -/
theorem State.restart_setPort (s : State) (p : Port) :
    (s.setPort p { s.port p with response := none, sent := 0 }).restart p = s.restart p := by
  cases p <;> simp [State.restart, State.restartBlocks, State.setPort, State.port, PortState.restarted_eq, State.startScan]

/-- Settles O14. -/
theorem restartsKeepTheRest : Obligations.RestartsKeepTheRest := by
  refine ⟨fun s p tag takes => exec_replies (c := .rstr p tag []) rfl takes rfl,
    fun s p => ⟨execResponseSent_idle, execResponseSent_ends⟩, fun c s p h => ?_⟩
  have restarts : exec c s = .next (s.restart p) := by
    obtain ⟨due, running, ⟨rfl, response⟩ | ⟨rfl, reached⟩⟩ := h
    · rw [execResponseSent_restarts response running, State.restart_setPort]
    · exact execRestartTimerExpiry_restarts running reached
  rw [restarts, State.restart, PortState.restarted_eq, PortState.restarted_eq]
  rfl

/-! ### The ends of the load and of the mount -/

theorem execModelLoadEnd_of_load (load : s.startUp.phase = .load) : exec .modelLoadEnd s = .next
    (State.postReset
      { State.startScan { s with model := s.flash.loadModel } with
        startUp := { s.startUp with phase := .mount }, archive := { s.archive with activity := .mount } }) := by
  change Host.Outcome.next _ = _
  rw [if_pos load]
  rfl

theorem Flash.loadModel_of_none {f : Flash} (h : f.image = none) : f.loadModel = ⟨.defaults, .setup, 0, false⟩ := by
  simp [Flash.loadModel, h]

theorem Flash.loadModel_of_some {f : Flash} {i : ModelImage} (h : f.image = some i) :
    f.loadModel = ⟨i.groups, .survey, i.generation, false⟩ := by simp [Flash.loadModel, h]

/-- The archive state that the mount leaves (R151). -/
def mountState (full : Bool) : ArchiveState := if full then .full else .ready

/-- The kind of the posting that the mount makes (R151). -/
def mountKind (full : Bool) : ArchKind := if full then .full else .mounted

theorem execMountEnd_of_mount (mount : s.startUp.phase = .mount) {full : Bool}
    (hf : full = mountFull s.flash.newest s.model.groups.wrap) : exec .mountEnd s = .next
    (State.postBoth
      { s with
        archive := { s.archive with state := mountState full, writePage := mountPage s.flash.newest, activity := .idle }
        occupations := { s.occupations with counter := mountCounter s.flash.newest }
        startUp := { s.startUp with phase := .ready } }
      (.arch (mountKind full) (mountState full) none none (mountPage s.flash.newest) s.occupations.archiveQueue.length)) := by
  subst hf
  change Host.Outcome.next _ = _
  rw [if_pos mount]
  rfl

/-- Settles O15. -/
theorem startUpPhasesEnd : Obligations.StartUpPhasesEnd := by
  refine ⟨fun s load => ⟨s.flash.loadModel, Flash.loadModel_of_none, fun i => Flash.loadModel_of_some, ?_⟩,
    fun s other => congrArg Host.Outcome.next (if_neg other), fun s mount => ⟨mountPage s.flash.newest, mountCounter s.flash.newest,
      mountState (mountFull s.flash.newest s.model.groups.wrap), mountKind (mountFull s.flash.newest s.model.groups.wrap),
      fun none => ?_, fun q n newest => ?_, execMountEnd_of_mount mount rfl⟩,
    fun s other => congrArg Host.Outcome.next (if_neg other)⟩
  · rw [execModelLoadEnd_of_load load]; rfl
  · rw [none]; exact ⟨rfl, rfl, rfl, rfl⟩
  · rw [newest]
    refine ⟨rfl, fun below => ?_, fun last => ?_⟩
    · simp [mountPage, mountFull, mountState, mountKind, below]
    · have last : ¬q < 4095 := by omega
      refine ⟨by simp [mountPage, last], fun wrap => ?_, fun wrap => ?_⟩ <;>
        simp [mountFull, mountState, mountKind, last, wrap]

/-! ### Ticks -/

theorem State.tick_of_unset (unset : s.clock.time = .unset) (date : Nat) :
    s.tick date = { s with clock := { s.clock with lastTick := date } } := by
  simp only [State.tick, unset]

theorem State.tick_of_set (set : s.clock.time = .set) (none : s.clock.preload = none) (date : Nat) :
    s.tick date = { s with clock := { s.clock with lastTick := date, seconds := (s.clock.seconds + 1) % 4294967296 } } := by
  simp only [State.tick, set, none]

theorem State.tick_of_preload {v : Nat} (set : s.clock.time = .set) (pending : s.clock.preload = some v) (date : Nat) :
    s.tick date = State.postBoth
      (State.giveStepNotice { s with clock := { s.clock with lastTick := date, seconds := v, preload := none } })
      (.clck .stepped s.clock.discipline none none v (some ((v : Int) - ((s.clock.seconds : Int) + 1)))) := by
  simp only [State.tick, set, pending]

theorem execPulseWindowExpiry_idle (h : ¬(s.clock.discipline = .pulse ∧ 10000500 ≤ s.now - s.clock.lastTick)) :
    exec .pulseWindowExpiry s = .next s := congrArg Host.Outcome.next (if_neg h)

theorem execPulseWindowExpiry_due (pulse : s.clock.discipline = .pulse) (due : 10000500 ≤ s.now - s.clock.lastTick) :
    exec .pulseWindowExpiry s = .next s.substituteTick := congrArg Host.Outcome.next (if_pos ⟨pulse, due⟩)

/-- The substitute tick counts a miss (R53). -/
theorem State.substituteTick_of_more (more : s.clock.miss + 1 ≠ 3) {t : State} (ht : t = s.tick (s.clock.lastTick + 10000000)) :
    s.substituteTick = { t with clock := { t.clock with miss := s.clock.miss + 1 } } := by
  subst ht
  have miss := (s.tick_keeps (s.clock.lastTick + 10000000)).2.2.1
  rw [← miss]
  exact if_neg (miss ▸ more)

/-- The third miss returns the clock to INTERNAL (R53). -/
theorem State.substituteTick_of_third (third : s.clock.miss + 1 = 3) {t : State}
    (ht : t = s.tick (s.clock.lastTick + 10000000)) : s.substituteTick =
      State.postBoth { t with clock := { t.clock with discipline := .internal, miss := 0, bad := 0 } }
        (.clck .discipline .internal (some .misses) none t.clock.seconds none) := by
  subst ht
  have miss := (s.tick_keeps (s.clock.lastTick + 10000000)).2.2.1
  exact if_pos (miss ▸ third)

/-- Settles O16. -/
theorem ticksAdvanceOrLoad : Obligations.TicksAdvanceOrLoad := by
  refine ⟨fun s date unset => State.tick_of_unset unset date, fun s date set none => State.tick_of_set set none date,
    fun s date v set pending => State.tick_of_preload set pending date, fun s => rfl, fun s => execPulseWindowExpiry_idle,
    fun s t pulse due ht => ?_⟩
  rw [execPulseWindowExpiry_due pulse due]
  exact ⟨fun more => congrArg _ (State.substituteTick_of_more more ht),
    fun third => congrArg _ (State.substituteTick_of_third third ht)⟩

/-! ### CKST -/

section
variable {l : List Byte}

theorem ckstReply_of_unset (length : l.length = 4) (unset : s.clock.time = .unset) : ckstReply l s =
    ⟨.okay, [0], State.postBoth { s with clock := { s.clock with seconds := u32At l 0, time := .set } }
      (.clck .loaded s.clock.discipline none none (u32At l 0) none)⟩ := by
  rw [ckstReply, State.sized_length s length]
  simp only [unset]
  rfl

theorem ckstReply_of_set (length : l.length = 4) (set : s.clock.time = .set) (none : s.clock.preload = none) : ckstReply l s =
    ⟨.okay, [1], { s with clock := { s.clock with preload := some (u32At l 0) } }⟩ := by
  rw [ckstReply, State.sized_length s length]
  simp only [set, none]
  rfl

theorem ckstReply_of_preload {old : Nat} (length : l.length = 4) (set : s.clock.time = .set)
    (pending : s.clock.preload = some old) : ckstReply l s =
    ⟨.okay, [2] ++ u32 old, { s with clock := { s.clock with preload := some (u32At l 0) } }⟩ := by
  rw [ckstReply, State.sized_length s length]
  simp only [set, pending]
  rfl

end

/-- Settles O19. -/
theorem ckstLoadsOrPreloads : Obligations.CkstLoadsOrPreloads := by
  refine ⟨fun s p tag l takes length => ⟨fun unset => ?_, fun set none => ?_, fun old set pending => ?_⟩,
    fun c s t p tag name request other h => (exec_agreesOff h).clock ?_⟩
  · exact exec_replies (c := .ckst p tag l) rfl takes (ckstReply_of_unset length unset)
  · exact exec_replies (c := .ckst p tag l) rfl takes (ckstReply_of_set length set none)
  · exact exec_replies (c := .ckst p tag l) rfl takes (ckstReply_of_preload length set pending)
  · cases c <;> cases request <;> first | exact absurd rfl (other _ _ _) | simp [footprint]

end Sys2Proof.Machine
end

section
/-!
PROOFS. Chapter 1: the Sensor Gate's edges, periods and timeouts, the calibration gates, and the frames of the scan (R1 to R5,
R7, R8, R10 to R12, R14, R15).
-/

namespace Sys2Proof.Machine

variable {s : State} {p : Port} {tag : Byte}

/-! ### FREQ edges -/

theorem State.freqEdge_of_idle (h : s.gate.state = .idle) : s.freqEdge = s := by simp only [State.freqEdge, h]

theorem State.freqEdge_of_armed (h : s.gate.state = .armed) : s.freqEdge = s.startGate := by simp only [State.freqEdge, h]

/-- The state with the gate's edge count replaced. -/
def State.withEdges (s : State) (n : Nat) : State := { s with gate := { s.gate with edgeCount := n } }

@[simp] theorem State.withEdges_gate_state (s : State) (n : Nat) : (s.withEdges n).gate.state = s.gate.state := rfl
@[simp] theorem State.withEdges_edgeCount (s : State) (n : Nat) : (s.withEdges n).gate.edgeCount = n := rfl
@[simp] theorem State.withEdges_k (s : State) (n : Nat) : (s.withEdges n).gate.k = s.gate.k := rfl
@[simp] theorem State.withEdges_withEdges (s : State) (m n : Nat) : (s.withEdges m).withEdges n = s.withEdges n := rfl

theorem State.freqEdge_of_counting (h : s.gate.state = .counting) (more : s.gate.edgeCount + 1 ≠ 2 ^ s.gate.k) :
    s.freqEdge = s.withEdges (s.gate.edgeCount + 1) := by
  simp only [State.freqEdge, State.withEdges, h, if_neg more]

theorem State.freqEdge_of_last (h : s.gate.state = .counting) (last : s.gate.edgeCount + 1 = 2 ^ s.gate.k) :
    s.freqEdge = s.completeGate := by
  simp only [State.freqEdge, h, if_pos last]

@[simp] theorem State.completeGate_state (s : State) : s.completeGate.gate.state = .idle := rfl

/-- A run of edges on a COUNTING gate (R3, R4). -/
def State.countEdges (s : State) (m : Nat) : State :=
  if s.gate.edgeCount + m < 2 ^ s.gate.k then s.withEdges (s.gate.edgeCount + m)
  else (s.withEdges (2 ^ s.gate.k - 1)).freqEdge

theorem State.freqEdges_of_idle (h : s.gate.state = .idle) (n : Nat) : s.freqEdges n = s := by
  cases n <;> simp only [State.freqEdges, h]

theorem State.freqEdges_of_armed (h : s.gate.state = .armed) (m : Nat) : s.freqEdges (m + 1) = s.startGate.countEdges m := by
  simp only [State.freqEdges, h]; rfl

theorem State.freqEdges_of_counting (h : s.gate.state = .counting) (m : Nat) :
    s.freqEdges (m + 1) = s.countEdges (m + 1) := by
  simp only [State.freqEdges, State.countEdges, State.withEdges, h]

/-- A run of edges on a COUNTING gate is its edges one by one. -/
theorem State.countEdges_eq (h : s.gate.state = .counting) (below : s.gate.edgeCount < 2 ^ s.gate.k) (m : Nat) :
    s.countEdges m = State.freqEdge^[m] s := by
  induction m with
  | zero => exact if_pos below
  | succ m ih =>
    rw [Function.iterate_succ_apply', ← ih, State.countEdges, State.countEdges]
    by_cases more : s.gate.edgeCount + (m + 1) < 2 ^ s.gate.k
    · rw [if_pos more, if_pos (by omega), State.freqEdge_of_counting (by simpa using h) (by simp; omega)]
      simp [Nat.add_assoc]
    · rw [if_neg more]
      by_cases last : s.gate.edgeCount + m < 2 ^ s.gate.k
      · rw [if_pos last, show s.gate.edgeCount + m = 2 ^ s.gate.k - 1 by omega]
      · have done : (s.withEdges (2 ^ s.gate.k - 1)).freqEdge.gate.state = .idle := by
          rw [State.freqEdge_of_last (by simpa using h) (by simp; omega), State.completeGate_state]
        rw [if_neg last, State.freqEdge_of_idle done]

theorem State.freqEdges_eq (below : s.gate.state ≠ .idle → s.gate.edgeCount < 2 ^ s.gate.k) (n : Nat) :
    s.freqEdges n = State.freqEdge^[n] s := by
  cases n with
  | zero => rfl
  | succ m =>
    cases state : s.gate.state with
    | idle => rw [State.freqEdges_of_idle state, Function.iterate_fixed (State.freqEdge_of_idle state)]
    | armed =>
      rw [State.freqEdges_of_armed state, Function.iterate_succ_apply, State.freqEdge_of_armed state]
      exact State.countEdges_eq (s := s.startGate) rfl (below (by simp [state])) m
    | counting => rw [State.freqEdges_of_counting state, State.countEdges_eq state (below (by simp [state]))]

/-- The completion edge hands the report to the gate's armer (R4, R8). -/
theorem State.completeGate_of_engine (armer : s.gate.armer = some .engine) : s.completeGate =
    { s with
      gate := { s.gate with state := .idle, armer := none, edgeCount := s.gate.edgeCount + 1,
                            stop := some (s.clock.stamp s.now), limitDue := none }
      engine := { s.engine with reports := s.engine.reports ++ [.completion s.completion] } } := by
  simp only [State.completeGate, State.handReport, armer]

theorem State.completeGate_of_calibration (armer : s.gate.armer = some (.calibration p)) : s.completeGate =
    { s with
      gate := { s.gate with state := .idle, armer := none, edgeCount := s.gate.edgeCount + 1,
                            stop := some (s.clock.stamp s.now), limitDue := none }
      cal := { s.cal with report := some (.completion s.completion) } } := by
  simp only [State.completeGate, State.handReport, armer]

theorem State.completion_of_start {first : Stamp} (start : s.gate.start = some first) : s.completion =
    ⟨s.gate.armCount, s.gate.k, s.gate.refCount, s.gate.refCount * 2 ^ (16 - s.gate.k), first, s.clock.stamp s.now,
      s.gate.stepped⟩ := by
  rw [State.completion, start]; rfl

/-- Settles O21. -/
theorem edgesMoveTheGate : Obligations.EdgesMoveTheGate := by
  rintro s now rfl
  refine ⟨fun idle => ⟨congrArg _ (State.freqEdge_of_idle idle), congrArg _ (State.freqEdge_of_idle idle),
    fun n => congrArg _ (State.freqEdges_of_idle idle n)⟩, fun armed => congrArg _ (State.freqEdge_of_armed armed),
    fun n counting pos more => ?_, fun first counting last start g report hg hr => ?_⟩
  · obtain ⟨m, rfl⟩ : ∃ m, n = m + 1 := ⟨n - 1, by omega⟩
    exact congrArg _ ((State.freqEdges_of_counting counting m).trans (if_pos more))
  · have edge : exec .completionEdge s = .next s.completeGate := congrArg _ (State.freqEdge_of_last counting last)
    have handed : report = s.completion := hr.trans (State.completion_of_start start).symm
    rw [edge, hg, handed, ← last]
    exact ⟨fun armer => congrArg _ (State.completeGate_of_engine armer),
      fun p armer => congrArg _ (State.completeGate_of_calibration armer)⟩

/-! ### Reference periods -/

theorem execReferencePeriodEnd_of_counting (h : s.gate.state = .counting) (n : Nat) : exec (.referencePeriodEnd n) s = .next
    { s with now := s.now + n, gate := { s.gate with refCount := min (s.gate.refCount + n) 600000000 } } := by
  change execReferencePeriodEnd n s = _
  simp only [execReferencePeriodEnd, h]
  rfl

theorem execReferencePeriodEnd_of_not_counting (h : s.gate.state ≠ .counting) (n : Nat) :
    exec (.referencePeriodEnd n) s = .next { s with now := s.now + n } := by
  change execReferencePeriodEnd n s = _
  cases state : s.gate.state
  case counting => exact absurd state h
  all_goals simp only [execReferencePeriodEnd, state]

/-- Settles O22. -/
theorem edgeRunsAreSingleEdges : Obligations.EdgeRunsAreSingleEdges := by
  refine ⟨fun s n below => congrArg _ (State.freqEdges_eq below n), fun s t m n h => ?_⟩
  by_cases counting : s.gate.state = .counting
  · rw [execReferencePeriodEnd_of_counting counting] at h
    cases h
    rw [execReferencePeriodEnd_of_counting counting, execReferencePeriodEnd_of_counting (by exact counting)]
    have held : min (min (s.gate.refCount + m) 600000000 + n) 600000000 = min (s.gate.refCount + (m + n)) 600000000 := by omega
    simp only [held, Nat.add_assoc]
  · rw [execReferencePeriodEnd_of_not_counting counting] at h
    cases h
    rw [execReferencePeriodEnd_of_not_counting counting, execReferencePeriodEnd_of_not_counting (by exact counting)]
    simp only [Nat.add_assoc]

/-! ### Timeouts -/

theorem execGateTimeout_of_idle (h : s.gate.state = .idle) : exec .gateTimeout s = .next s := by
  change execGateTimeout s = _
  simp only [execGateTimeout, h]

theorem execGateTimeout_of_due {due : Nat} (h : s.gate.state ≠ .idle) (limit : s.gate.limitDue = some due) :
    exec .gateTimeout s = .next (if due ≤ s.now then s.timeoutGate else s) := by
  change execGateTimeout s = _
  cases state : s.gate.state
  case idle => exact absurd state h
  all_goals simp only [execGateTimeout, state, limit, State.reached, decide_eq_true_eq]

theorem State.timeoutGate_of_engine (armer : s.gate.armer = some .engine) : s.timeoutGate =
    { s with
      gate := { s.gate with state := .idle, armer := none, edgeCount := 0, refCount := 0, limitDue := none }
      engine := { s.engine with reports := s.engine.reports ++ [.timeout s.gate.armCount s.gate.k s.gate.start] } } := by
  simp only [State.timeoutGate, State.handReport, armer]

theorem State.timeoutGate_of_calibration (armer : s.gate.armer = some (.calibration p)) : s.timeoutGate =
    { s with
      gate := { s.gate with state := .idle, armer := none, edgeCount := 0, refCount := 0, limitDue := none }
      cal := { s.cal with report := some (.timeout s.gate.armCount s.gate.k s.gate.start) } } := by
  simp only [State.timeoutGate, State.handReport, armer]

/-- Settles O23. -/
theorem periodsAndTimeouts : Obligations.PeriodsAndTimeouts := by
  refine ⟨fun s n => ⟨fun counting => execReferencePeriodEnd_of_counting counting n,
    fun other => execReferencePeriodEnd_of_not_counting other n⟩, fun s => ⟨execGateTimeout_of_idle, fun due running limit => ?_⟩⟩
  rw [execGateTimeout_of_due running limit]
  refine ⟨fun early => by rw [if_neg (by omega)], fun reached => ?_⟩
  rw [if_pos reached]
  rintro g rfl
  exact ⟨fun armer => congrArg _ (State.timeoutGate_of_engine armer),
    fun p armer => congrArg _ (State.timeoutGate_of_calibration armer)⟩

/-! ### CGAT -/

theorem State.armGate_of_idle (h : s.gate.state = .idle) (a : Armer) (k : Nat) : s.armGate a k =
    { s with gate :=
      { state := .armed, armer := some a, k := k, edgeCount := 0, refCount := 0, start := none, stop := none,
        stepped := false, limitDue := some (s.now + s.model.groups.gate.gateLimit.toNat * 100000),
        armCount := s.gate.armCount + 1 } } := if_pos h

theorem State.armGate_of_busy (h : s.gate.state ≠ .idle) (a : Armer) (k : Nat) : s.armGate a k = s := if_neg h

section
variable {l : List Byte}

theorem cgatReply_of_survey (length : l.length = 1) (survey : s.model.mode = .survey) :
    cgatReply p l s = s.refuse .mode := by
  rw [cgatReply, State.sized_length s length, if_pos survey]

theorem cgatReply_of_pending (length : l.length = 1) (setup : s.model.mode = .setup) (pending : s.cal.result.state = .pending) :
    cgatReply p l s = s.busy .calibration := by
  rw [cgatReply, State.sized_length s length, if_neg (by simp [setup]), if_pos pending]

theorem cgatReply_of_setup (length : l.length = 1) (setup : s.model.mode = .setup) (idle : s.cal.result.state ≠ .pending)
    {k : Nat} (hk : k = clampNat 10 16 (u8At l 0)) : cgatReply p l s =
    ⟨if k = u8At l 0 then .okay else .clmp, u8 k,
      State.armGate
        { s with cal := { s.cal with
          acc := .none, result := { CalResult.none with state := .pending, port := some p, k := some k } } }
        (.calibration p) k⟩ := by
  subst hk
  rw [cgatReply, State.sized_length s length, if_neg (by simp [setup]), if_neg idle]

end

/-- Settles O24. -/
theorem cgatArmsTheGate : Obligations.CgatArmsTheGate := by
  refine ⟨fun s a k => ⟨fun busy => State.armGate_of_busy busy a k, fun idle => State.armGate_of_idle idle a k⟩,
    fun s p tag l takes length => ⟨fun survey => ?_, fun setup pending => ?_, fun setup idle k u hk hu => ?_⟩⟩
  · exact exec_replies (c := .cgat p tag l) rfl takes (cgatReply_of_survey length survey)
  · exact exec_replies (c := .cgat p tag l) rfl takes (cgatReply_of_pending length setup pending)
  · have clamped : k = clampNat 10 16 (u8At l 0) := by rw [hk, clampNat_eq (by omega)]
    rw [hu, ← u8_eq]
    exact exec_replies (c := .cgat p tag l) rfl takes (cgatReply_of_setup length setup idle clamped)

/-! ### Calibration gates -/

/-- What a completed calibration gate reads its codes from: the accumulated frames, else the frame in force, else nothing
(R15). -/
theorem calComplete_of_frames {r : CalResult} {a : CalAccumulator} (some_taken : 0 < a.n) (f : Option Frame) (c : Completion) :
    calComplete r a f c =
      { r with state := .complete, count := some c.count, raw := some c.raw, frames := some a.n,
               meanX := some (roundDiv a.sumX a.n), meanY := some (roundDiv a.sumY a.n), temp := a.temp,
               marks := some a.marks } := if_pos some_taken

theorem calComplete_of_frame {r : CalResult} {a : CalAccumulator} (none_taken : a.n = 0) (f : Frame) (c : Completion) :
    calComplete r a (some f) c =
      { r with state := .complete, count := some c.count, raw := some c.raw, frames := some a.n, meanX := some f.tiltX,
               meanY := some f.tiltY, temp := some f.temp, marks := some ⟨f.satX, f.satY, f.satT⟩ } :=
  if_neg (by omega)

theorem calComplete_of_none {r : CalResult} {a : CalAccumulator} (none_taken : a.n = 0) (c : Completion) :
    calComplete r a none c =
      { r with state := .complete, count := some c.count, raw := some c.raw, frames := some a.n, meanX := none, meanY := none,
               temp := none, marks := some ⟨false, false, false⟩ } :=
  if_neg (by omega)

theorem execCalibrationGateEnd_idle (h : s.cal.frames ≠ [] ∨ s.cal.report = none) : exec .calibrationGateEnd s = .next s := by
  change execCalibrationGateEnd s = _
  rcases h with h | h
  · cases frames : s.cal.frames with
    | nil => exact absurd frames h
    | cons => simp only [execCalibrationGateEnd, frames]
  · cases frames : s.cal.frames <;> simp only [execCalibrationGateEnd, frames, h]

theorem execCalibrationGateEnd_completion {c : Completion} (frames : s.cal.frames = [])
    (report : s.cal.report = some (.completion c)) {r : CalResult}
    (hr : calComplete s.cal.result s.cal.acc s.scan.latest c = r) (rp : r.port = some p) :
    exec .calibrationGateEnd s = .next
      (State.post { s with cal := { s.cal with report := none, result := r } } p (.rdon 0 .done none 0 0 0)) := by
  subst hr
  change execCalibrationGateEnd s = _
  simp only [execCalibrationGateEnd, frames, report, State.postCalibrationEnd, rp]

theorem execCalibrationGateEnd_timeout {g k : Nat} {first : Option Stamp} (frames : s.cal.frames = [])
    (report : s.cal.report = some (.timeout g k first)) (port : s.cal.result.port = some p) :
    exec .calibrationGateEnd s = .next
      (State.post { s with cal := { s.cal with report := none, result := { s.cal.result with state := .timeout } } }
        p (.rdon 0 .failed none 0 0 0)) := by
  change execCalibrationGateEnd s = _
  simp only [execCalibrationGateEnd, frames, report, State.postCalibrationEnd, port]

/-- Settles O25. -/
theorem calibrationGatesEnd : Obligations.CalibrationGatesEnd := by
  refine ⟨fun s f fs frames => ?_, fun s frames => ?_, fun s => execCalibrationGateEnd_idle,
    fun s c p frames report port => ?_, fun s g k first p => execCalibrationGateEnd_timeout⟩
  · change execCalibrationAccumulatorFrame s = _
    simp only [execCalibrationAccumulatorFrame, frames]; rfl
  · change execCalibrationAccumulatorFrame s = _
    simp only [execCalibrationAccumulatorFrame, frames]
  · have ends {r : CalResult} (hr : calComplete s.cal.result s.cal.acc s.scan.latest c = r) (rp : r.port = some p) :=
      execCalibrationGateEnd_completion frames report hr rp
    rcases Nat.eq_zero_or_pos s.cal.acc.n with none_taken | some_taken
    · cases latest : s.scan.latest with
      | none =>
        refine ⟨none, none, none, ⟨false, false, false⟩, fun h => (by omega), fun f _ h => (by cases h),
          fun _ _ => ⟨rfl, rfl, rfl, rfl⟩, ?_⟩
        rw [ends ((congrArg (calComplete _ _ · c) latest).trans (calComplete_of_none none_taken c)) (by exact port), port]
      | some f =>
        refine ⟨some f.tiltX, some f.tiltY, some f.temp, ⟨f.satX, f.satY, f.satT⟩, fun h => (by omega),
          fun g _ h => (by cases h; exact ⟨rfl, rfl, rfl, rfl⟩), fun _ h => (by cases h), ?_⟩
        rw [ends ((congrArg (calComplete _ _ · c) latest).trans (calComplete_of_frame none_taken f c)) (by exact port), port]
    · refine ⟨_, _, _, _, fun _ => ⟨rfl, rfl, rfl, rfl⟩, fun f h => (by omega), fun h => (by omega), ?_⟩
      rw [ends (calComplete_of_frames some_taken _ c) port, port]

/-! ### Conversions and frames -/

theorem execAnalogConversion_of_scan {ch : Channel} {code : BitVec 24} (scan : s.scan.arrivalDue ≠ none) :
    exec (.analogConversion ch code) s = .next { s with scan :=
      { s.scan with
        convX := if ch = .tiltX then convert s.scan.averaging s.scan.convX code.toInt else s.scan.convX
        convY := if ch = .tiltY then convert s.scan.averaging s.scan.convY code.toInt else s.scan.convY
        convT := if ch = .temperature then convert s.scan.averaging s.scan.convT code.toInt else s.scan.convT } } := by
  change Host.Outcome.next _ = _
  rw [if_pos (Option.isSome_iff_ne_none.2 scan)]
  cases ch <;> rfl

theorem execAnalogConversion_of_no_scan {ch : Channel} {code : BitVec 24} (none : s.scan.arrivalDue = none) :
    exec (.analogConversion ch code) s = .next s := congrArg Host.Outcome.next (if_neg (by simp [none]))

theorem execFrameArrival_of_due {due : Nat} (arrival : s.scan.arrivalDue = some due) (reached : due ≤ s.now)
    (x : s.scan.convX.length = s.scan.averaging) (y : s.scan.convY.length = s.scan.averaging)
    (z : s.scan.convT.length = s.scan.averaging) : exec .frameArrival s = .next (s.arrive due) := by
  change execFrameArrival s = _
  simp [execFrameArrival, arrival, State.reached, reached, Scanner.complete, x, y, z]

theorem State.deliver_of_not_counting (h : s.gate.state ≠ .counting) (f : Frame) : s.deliver f =
    { s with level := { s.level with frames := s.level.frames ++ [f] }
             thermal := { s.thermal with frames := s.thermal.frames ++ [f] } } := by
  cases state : s.gate.state
  case counting => exact absurd state h
  all_goals simp only [State.deliver, state]

theorem State.deliver_of_engine (h : s.gate.state = .counting) (armer : s.gate.armer = some .engine) (f : Frame) : s.deliver f =
    { s with level := { s.level with frames := s.level.frames ++ [f] }
             thermal := { s.thermal with frames := s.thermal.frames ++ [f] }
             engine := { s.engine with frames := s.engine.frames ++ [⟨s.gate.armCount, f⟩] } } := by
  simp only [State.deliver, h, armer]

theorem State.deliver_of_calibration (h : s.gate.state = .counting) (armer : s.gate.armer = some (.calibration p)) (f : Frame) :
    s.deliver f =
    { s with level := { s.level with frames := s.level.frames ++ [f] }
             thermal := { s.thermal with frames := s.thermal.frames ++ [f] }
             cal := { s.cal with frames := s.cal.frames ++ [f] } } := by
  simp only [State.deliver, h, armer]

/-- Settles O26. -/
theorem framesAreFormedAndDelivered : Obligations.FramesAreFormedAndDelivered := by
  refine ⟨fun s code scan => ⟨execAnalogConversion_of_scan scan, execAnalogConversion_of_scan scan,
    execAnalogConversion_of_scan scan⟩, fun s ch code => execAnalogConversion_of_no_scan, ?_⟩
  intro s due arrival reached x y z f u hf hu
  have formed : f = s.scan.form := by
    rw [hf]
    simp only [Scanner.form, meanCode, x, y, z]
    rfl
  rw [execFrameArrival_of_due arrival reached x y z, hu, formed]
  exact ⟨fun other => congrArg _ (State.deliver_of_not_counting (by exact other) _),
    fun counting armer => congrArg _ (State.deliver_of_engine (by exact counting) (by exact armer) _),
    fun p counting armer => congrArg _ (State.deliver_of_calibration (by exact counting) (by exact armer) _)⟩

end Sys2Proof.Machine
end

section
/-!
PROOFS. Requests that only read: the status requests, the tide computation with TDCP, and the table reads (R16, R30, R58, R63
to R71, R78, R116, R123, R133, R154, R171); and the folds of the device cosine (R67).
-/

namespace Sys2Proof.Machine

variable {s : State} {p : Port} {tag : Byte}

/-! ### Status requests -/

theorem State.liveBytes_of_taken {t : Tilts} {f : Frame} (taken : s.level.taken = true) (tilts : s.level.tilts = some t)
    (latest : s.scan.latest = some f) :
    s.liveBytes = [1] ++ ([1] ++ s32 t.x) ++ ([1] ++ s32 t.y) ++ ([1] ++ s32 f.tiltX) ++ ([1] ++ s32 f.tiltY)
      ++ u8 s.level.state.code ++ u8 s.level.debounce ++ u8 s.model.groups.tilt.debounce ++ mark s.level.satX
      ++ mark s.level.satY ++ opt s32 4 s.thermal.temp ++ opt s32 4 s.thermal.baseline ++ u8 s.thermal.window.code
      ++ mark s.thermal.saturated := by
  simp only [State.liveBytes, taken, tilts, latest, if_true, Option.map_some]
  rfl

theorem State.liveBytes_of_not_taken (taken : s.level.taken = false) :
    s.liveBytes = List.replicate 21 0 ++ u8 s.level.state.code ++ u8 s.level.debounce ++ u8 s.model.groups.tilt.debounce
      ++ mark s.level.satX ++ mark s.level.satY ++ opt s32 4 s.thermal.temp ++ opt s32 4 s.thermal.baseline
      ++ u8 s.thermal.window.code ++ mark s.thermal.saturated := by
  simp only [State.liveBytes, taken, Bool.false_eq_true, if_false, Option.map_none]
  rfl

theorem State.identity_of_loading (loading : s.startUp.phase = .load) :
    s.identity p = [71, 67, 45, 50, 52, 1, byte (Port.code p), byte s.startUp.lastReset.code]
      ++ opt (fun q => u8 (Port.code q)) 1 s.startUp.lastReset.port ++ [byte s.startUp.phase.code] ++ [0, 0] ++ [0, 0, 0]
      ++ mark s.model.storeOutstanding ++ u8 s.startUp.lastStore.code ++ opt u16 2 s.startUp.lastStore.generation := by
  simp only [State.identity, loading, decide_true, if_true, u8_eq (Port.code _), u8_eq (ResetCause.code _), u8_eq (Phase.code _)]
  rfl

theorem State.identity_of_loaded (loaded : s.startUp.phase ≠ .load) :
    s.identity p = [71, 67, 45, 50, 52, 1, byte (Port.code p), byte s.startUp.lastReset.code]
      ++ opt (fun q => u8 (Port.code q)) 1 s.startUp.lastReset.port ++ [byte s.startUp.phase.code]
      ++ [1, byte s.model.mode.code] ++ (1 :: u16 s.model.generation)
      ++ mark s.model.storeOutstanding ++ u8 s.startUp.lastStore.code ++ opt u16 2 s.startUp.lastStore.generation := by
  simp only [State.identity, loaded, decide_false, Bool.false_eq_true, if_false, opt, u8_eq]
  rfl

/-- Settles O34. -/
theorem statusRequestsReport : Obligations.StatusRequestsReport := by
  refine fun s p tag => ⟨fun takes => ⟨?_, fun taken t f tilts latest => ?_, fun taken => ?_, ?_, ?_, ?_⟩,
    fun idle md gen loading loaded => ?_⟩
  · exact exec_replies (c := .cgrd p tag []) rfl takes rfl
  · rw [← State.liveBytes_of_taken taken tilts latest]
    exact exec_replies (c := .live p tag []) rfl takes rfl
  · rw [← State.liveBytes_of_not_taken taken]
    exact exec_replies (c := .live p tag []) rfl takes rfl
  · exact exec_replies (c := .ckrd p tag []) rfl takes rfl
  · exact exec_replies (c := .rdqu p tag []) rfl takes rfl
  · exact exec_replies (c := .arst p tag []) rfl takes rfl
  · have answered : exec (.iden p tag []) s = .next (s.answer p tag .okay (s.identity p)) :=
      congrArg Host.Outcome.next (State.serveAlways_taken idle tag (idenReply p []))
    rw [answered]
    by_cases load : s.startUp.phase = .load
    · obtain ⟨rfl, rfl⟩ := loading load
      rw [State.identity_of_loading load]
    · obtain ⟨rfl, rfl⟩ := loaded load
      rw [State.identity_of_loaded load]

/-! ### The tide computation -/

theorem slotTerms_slots (dt dl : Int) (cs : List TideSlot) (j : Nat) :
    (slotTerms dt dl j cs).map (·.slot) =
      (List.range' j cs.length).filter fun i => (cs.getD (i - j) TideSlot.defaults).enabled := by
  induction cs generalizing j with
  | nil => rfl
  | cons c cs ih =>
    have rest : (List.range' (j + 1) cs.length).filter (fun i => ((c :: cs).getD (i - j) TideSlot.defaults).enabled) =
        (List.range' (j + 1) cs.length).filter fun i => (cs.getD (i - (j + 1)) TideSlot.defaults).enabled := by
      refine List.filter_congr fun i mem => ?_
      obtain ⟨k, hk⟩ : ∃ k, i = j + 1 + k := Nat.exists_eq_add_of_le (List.mem_range'_1.mp mem).1
      rw [hk, show j + 1 + k - j = k + 1 by omega, show j + 1 + k - (j + 1) = k by omega, List.getD_cons_succ]
    rw [List.length_cons, List.range'_succ, List.filter_cons, Nat.sub_self, List.getD_cons_zero, rest, ← ih, slotTerms]
    split <;> rfl

theorem mem_slotTerms {dt dl : Int} {cs : List TideSlot} {x : TideTerm} {j : Nat} (mem : x ∈ slotTerms dt dl j cs) :
    ∃ i c, cs[i]? = some c ∧ c.enabled = true ∧ x = slotTerm c (j + i) dt dl := by
  induction cs generalizing j with
  | nil => cases mem
  | cons c cs ih =>
    have later (mem : x ∈ slotTerms dt dl (j + 1) cs) :
        ∃ i d, (c :: cs)[i]? = some d ∧ d.enabled = true ∧ x = slotTerm d (j + i) dt dl := by
      obtain ⟨i, d, at_i, on, rfl⟩ := ih mem
      exact ⟨i + 1, d, at_i, on, by rw [Nat.add_assoc, Nat.add_comm 1]⟩
    rw [slotTerms] at mem
    split at mem
    next on =>
      rcases List.mem_cons.mp mem with rfl | mem
      · exact ⟨0, c, rfl, on, rfl⟩
      · exact later mem
    · exact later mem

theorem slotPhase_spec (c : TideSlot) (dt dl : Int) : slotPhase c dt dl < 4294967296 ∧
    (slotPhase c dt dl : Int) ≡ c.phase + Int.fdiv (c.speed * dt) 256 + c.species * dl [ZMOD 4294967296] := by
  unfold slotPhase
  generalize (c.phase : Int) + Int.fdiv (c.speed * dt) 256 + c.species * dl = θ
  have cast : ((θ % 4294967296).toNat : Int) = θ % 4294967296 := Int.toNat_of_nonneg (Int.emod_nonneg _ (by norm_num))
  refine ⟨by omega, ?_⟩
  rw [cast]
  exact Int.mod_modEq _ _

theorem clampCorrection_eq (v : Int) : clampCorrection v = max (-50000000) (min 50000000 v) := clampInt_eq (by norm_num)

/-- Settles O33. -/
theorem tideTermsAreTheEnabledSlots : Obligations.TideTermsAreTheEnabledSlots := by
  rintro g t longitude factor v rfl
  refine ⟨rfl, rfl, ?_, fun x mem => ?_, rfl, rfl, clampCorrection_eq _⟩
  · have slots := slotTerms_slots (timeOffset g.tidr t) (longitudeOffset g.tidr longitude) g.tide.toList 0
    rwa [Vector.length_toList, ← List.range_eq_range'] at slots
  · obtain ⟨i, c, at_i, on, rfl⟩ := mem_slotTerms mem
    rw [Nat.zero_add]
    obtain ⟨below, phase⟩ := slotPhase_spec c (timeOffset g.tidr t) (longitudeOffset g.tidr longitude)
    exact ⟨c, at_i, on, rfl, below, phase, rfl, rfl⟩

/-! ### The folds of the device cosine -/

section
variable {r : Nat}

theorem deviceCosine_first (h : r < 1073741824) : deviceCosine r = cosQuarter r := by
  simp only [deviceCosine, Nat.div_eq_of_lt h, Nat.mod_eq_of_lt h]

theorem deviceCosine_second (h : r < 1073741824) : deviceCosine (1073741824 + r) = -cosQuarter (1073741824 - r) := by
  simp only [deviceCosine, show (1073741824 + r) / 1073741824 = 1 by omega, show (1073741824 + r) % 1073741824 = r by omega]

theorem deviceCosine_third (h : r < 1073741824) : deviceCosine (2147483648 + r) = -cosQuarter r := by
  simp only [deviceCosine, show (2147483648 + r) / 1073741824 = 2 by omega, show (2147483648 + r) % 1073741824 = r by omega]

theorem deviceCosine_fourth (h : r < 1073741824) : deviceCosine (3221225472 + r) = cosQuarter (1073741824 - r) := by
  simp only [deviceCosine, show (3221225472 + r) / 1073741824 = 3 by omega, show (3221225472 + r) % 1073741824 = r by omega]

end

theorem cosQuarter_right_angle : cosQuarter 1073741824 = 0 := by decide

theorem deviceCosine_half_turn {θ : Nat} (h : θ < 2147483648) : deviceCosine (θ + 2147483648) = -deviceCosine θ := by
  rcases Nat.lt_or_ge θ 1073741824 with first | second
  · rw [Nat.add_comm, deviceCosine_third first, deviceCosine_first first]
  · obtain ⟨r, rfl⟩ := Nat.exists_eq_add_of_le second
    have fits : r < 1073741824 := by omega
    rw [show 1073741824 + r + 2147483648 = 3221225472 + r by omega, deviceCosine_fourth fits, deviceCosine_second fits, neg_neg]

/-- The mirror of the first half turn; a quarter turn, whose mirror begins the last quarter, gives 0 either way. -/
theorem deviceCosine_mirror {θ : Nat} (pos : 0 < θ) (h : θ ≤ 2147483648) :
    deviceCosine (4294967296 - θ) = deviceCosine θ := by
  rcases Nat.lt_or_ge 1073741824 θ with second | first
  · obtain ⟨r, rfl⟩ := Nat.exists_eq_add_of_lt second
    rcases Nat.lt_or_ge (r + 1) 1073741824 with inside | last
    · rw [show 4294967296 - (1073741824 + r + 1) = 2147483648 + (1073741823 - r) by omega, Nat.add_assoc,
        deviceCosine_third (by omega), deviceCosine_second inside, show 1073741823 - r = 1073741824 - (r + 1) by omega]
    · rw [show r = 1073741823 by omega]
  · rcases Nat.lt_or_ge θ 1073741824 with inside | last
    · rw [show 4294967296 - θ = 3221225472 + (1073741824 - θ) by omega, deviceCosine_fourth (by omega), deviceCosine_first inside,
        Nat.sub_sub_self first]
    · rw [show θ = 1073741824 + 0 by omega, deviceCosine_second (by norm_num),
        show 4294967296 - (1073741824 + 0) = 3221225472 + 0 by norm_num, deviceCosine_fourth (by norm_num), Nat.sub_zero,
        cosQuarter_right_angle]
      rfl

/-- Settles O31. -/
theorem cosineFoldsAndMirrors : Obligations.CosineFoldsAndMirrors := by
  refine ⟨fun θ => deviceCosine_half_turn, fun θ pos below => ?_, by decide, by decide, by decide⟩
  rcases Nat.le_total θ 2147483648 with half | half
  · exact deviceCosine_mirror pos half
  · have mirrored := deviceCosine_mirror (θ := 4294967296 - θ) (by omega) (by omega)
    rwa [Nat.sub_sub_self below.le, eq_comm] at mirrored

end Sys2Proof.Machine
end

section
/-!
PROOFS. The requests that read a table: MDRD, TDCP, STRD and OCRD (R71, R78, R123, R133).
-/

namespace Sys2Proof.Machine

variable {s : State} {p : Port} {tag : Byte} {l : List Byte}

/-! ### MDRD and TDCP -/

theorem mdrdReply_of_group (id : GroupId) : mdrdReply (id.name ++ u8 id.index) s = ⟨.okay, s.groupBytes id, s⟩ := by
  obtain ⟨name, index, -⟩ := mdwr_payload_parts id []
  rw [List.append_nil] at name index
  rw [mdrdReply, State.sized_length s (by simp [GroupId.name_length])]
  simp only [name, index, GroupId.parse_name]

theorem mdrdReply_of_no_group (length : l.length = 5) (other : ∀ id : GroupId, l ≠ id.name ++ u8 id.index) :
    mdrdReply l s = s.refuse .args := by
  have unnamed : GroupId.parse (l.take 4) (u8At l 4) = none := by
    refine Option.eq_none_iff_forall_not_mem.mpr fun id parsed => other id ?_
    obtain ⟨name, index⟩ := GroupId.parse_eq_some parsed
    rw [← name, ← index, ← List.append_nil (_ ++ _), ← List.drop_of_length_le length.le]
    exact mdwr_payload_eq length.ge
  rw [mdrdReply, State.sized_length s length]
  simp only [unnamed]

theorem stationNumber_iff {n : Nat} : stationNumber n = true ↔ 1 ≤ n ∧ n ≤ 65534 := by simp [stationNumber]

theorem tdcpReply_of_no_number (length : l.length = 6) (outside : ¬(1 ≤ u16At l 0 ∧ u16At l 0 ≤ 65534)) :
    tdcpReply l s = s.refuse .args := by
  rw [tdcpReply, State.sized_length s length]
  exact if_neg (stationNumber_iff.not.mpr outside)

theorem tdcpReply_of_no_station (length : l.length = 6) (number : 1 ≤ u16At l 0 ∧ u16At l 0 ≤ 65534)
    (absent : s.station (u16At l 0) = none) : tdcpReply l s = s.refuse .none := by
  rw [tdcpReply, State.sized_length s length]
  simp only [stationNumber_iff.mpr number, if_true, absent]

theorem tdcpReply_of_station {e : Station} (length : l.length = 6) (number : 1 ≤ u16At l 0 ∧ u16At l 0 ≤ 65534)
    (held : s.station (u16At l 0) = some e) :
    tdcpReply l s = ⟨.okay, tdcpBytes (u16At l 0) (u32At l 2) e.factor
      (synthesize s.model.groups (u32At l 2) e.longitude e.factor), s⟩ := by
  rw [tdcpReply, State.sized_length s length]
  simp only [stationNumber_iff.mpr number, if_true, held]

/-! ### The entry with the smallest number above one -/

section
variable {α : Type} {key : α → Nat} {n : Nat}

/-- What `nextAbove` finds is a least of those above. -/
theorem nextAbove_least (xs : List α) :
    (nextAbove key n xs = none ∧ ∀ x ∈ xs, key x ≤ n) ∨
      ∃ y ∈ xs, nextAbove key n xs = some y ∧ n < key y ∧ ∀ x ∈ xs, n < key x → key y ≤ key x := by
  induction xs with
  | nil => exact .inl ⟨rfl, fun x mem => (by cases mem)⟩
  | cons x xs ih =>
    rcases ih with ⟨nothing, below⟩ | ⟨y, mem, found, above, least⟩
    · simp only [nextAbove, nothing]
      by_cases larger : n < key x
      · refine .inr ⟨x, by simp, if_pos larger, larger, fun z mem_z above_z => ?_⟩
        rcases List.mem_cons.mp mem_z with rfl | mem_z
        · exact le_rfl
        · exact absurd above_z (below z mem_z).not_gt
      · exact .inl ⟨if_neg larger, fun z mem_z => (List.mem_cons.mp mem_z).elim (fun e => e ▸ not_lt.mp larger) (below z)⟩
    · simp only [nextAbove, found]
      by_cases closer : n < key x ∧ key x < key y
      · refine .inr ⟨x, by simp, if_pos closer, closer.1, fun z mem_z above_z => ?_⟩
        rcases List.mem_cons.mp mem_z with rfl | mem_z
        · exact le_rfl
        · exact closer.2.le.trans (least z mem_z above_z)
      · refine .inr ⟨y, by simp [mem], if_neg closer, above, fun z mem_z above_z => ?_⟩
        rcases List.mem_cons.mp mem_z with rfl | mem_z
        · omega
        · exact least z mem_z above_z

theorem nextAbove_eq_none {xs : List α} (below : ∀ x ∈ xs, key x ≤ n) : nextAbove key n xs = none := by
  rcases nextAbove_least (key := key) (n := n) xs with ⟨nothing, -⟩ | ⟨y, mem, -, above, -⟩
  · exact nothing
  · exact absurd above (below y mem).not_gt

theorem nextAbove_eq_some {xs : List α} {e : α} (distinct : (xs.map key).Nodup) (mem : e ∈ xs) (above : n < key e)
    (least : ∀ x ∈ xs, n < key x → key e ≤ key x) : nextAbove key n xs = some e := by
  rcases nextAbove_least (key := key) (n := n) xs with ⟨-, below⟩ | ⟨y, mem_y, found, above_y, least_y⟩
  · exact absurd above (below e mem).not_gt
  · have same : key y = key e := (least_y e mem above).antisymm (least y mem_y above_y)
    rw [found, List.inj_on_of_nodup_map distinct mem_y mem same]

end

/-! ### STRD -/

section
variable {n : Nat}

theorem strdReply_of_exact (length : l.length = 3) (at_n : n = u16At l 1) (selection : u8At l 0 = 0) (one : 1 ≤ n)
    (top : n ≤ 65534) : strdReply l s = s.stationReply (s.station n) := by
  subst at_n
  rw [strdReply, State.sized_length s length]
  simp only [selection, stationNumber_iff.mpr ⟨one, top⟩, if_true]

theorem strdReply_of_no_number (length : l.length = 3) (at_n : n = u16At l 1) (selection : u8At l 0 = 0)
    (outside : ¬(1 ≤ n ∧ n ≤ 65534)) : strdReply l s = s.refuse .args := by
  subst at_n
  rw [strdReply, State.sized_length s length]
  simp only [selection]
  exact if_neg (stationNumber_iff.not.mpr outside)

theorem strdReply_of_next (length : l.length = 3) (at_n : n = u16At l 1) (selection : u8At l 0 = 1) (top : n ≤ 65534) :
    strdReply l s = s.stationReply (nextAbove (·.number) n s.stations) := by
  subst at_n
  rw [strdReply, State.sized_length s length]
  simp only [selection, if_pos top]

theorem strdReply_of_next_past (length : l.length = 3) (at_n : n = u16At l 1) (selection : u8At l 0 = 1) (past : 65534 < n) :
    strdReply l s = s.refuse .args := by
  subst at_n
  rw [strdReply, State.sized_length s length]
  simp only [selection, if_neg past.not_ge]

theorem strdReply_of_no_selection (length : l.length = 3) (selection : 1 < u8At l 0) : strdReply l s = s.refuse .args := by
  obtain ⟨m, hm⟩ : ∃ m, u8At l 0 = m + 2 := ⟨u8At l 0 - 2, by omega⟩
  rw [strdReply, State.sized_length s length]
  simp only [hm]

/-! ### OCRD -/

theorem ocrdReply_of_exact (length : l.length = 6) (at_n : n = u32At l 1) (selection : u8At l 0 = 0) :
    ocrdReply l s = s.occupationReply (u8At l 5) (s.occupation n) := by
  subst at_n
  rw [ocrdReply, State.sized_length s length]
  simp only [selection]

theorem ocrdReply_of_next (length : l.length = 6) (at_n : n = u32At l 1) (selection : u8At l 0 = 1) :
    ocrdReply l s = s.occupationReply (u8At l 5) (nextAbove (·.number) n s.occupations.entries) := by
  subst at_n
  rw [ocrdReply, State.sized_length s length]
  simp only [selection]

theorem ocrdReply_of_no_selection (length : l.length = 6) (selection : 1 < u8At l 0) : ocrdReply l s = s.refuse .args := by
  obtain ⟨m, hm⟩ : ∃ m, u8At l 0 = m + 2 := ⟨u8At l 0 - 2, by omega⟩
  rw [ocrdReply, State.sized_length s length]
  simp only [hm]

theorem placeIn_eq_none {queue : List Nat} (absent : n ∉ queue) : placeIn n queue = none := by
  induction queue with
  | nil => rfl
  | cons x xs ih =>
    obtain ⟨other, rest⟩ := not_or.mp (List.mem_cons.not.mp absent)
    rw [placeIn, if_neg (Ne.symm other), ih rest, Option.map_none]

theorem placeIn_append {before : List Nat} (first : n ∉ before) (after : List Nat) :
    placeIn n (before ++ n :: after) = some (before.length + 1) := by
  induction before with
  | nil => exact if_pos rfl
  | cons x xs ih =>
    obtain ⟨other, rest⟩ := not_or.mp (List.mem_cons.not.mp first)
    rw [List.cons_append, placeIn, if_neg (Ne.symm other), ih rest, Option.map_some, List.length_cons]

end

/-- The place of an occupation in the archive queue, absent unless it is CLOSED (R133). -/
def State.placeOf (s : State) (o : Occupation) : Option Nat :=
  if o.state = .closed then placeIn o.number s.occupations.archiveQueue else none

theorem State.placeOf_eq {o : Occupation} {place : Option Nat}
    (absent : o.state ≠ .closed ∨ o.number ∉ s.occupations.archiveQueue → place = none)
    (present : ∀ before after : List Nat, o.state = .closed → s.occupations.archiveQueue = before ++ o.number :: after →
      o.number ∉ before → place = some (before.length + 1)) : s.placeOf o = place := by
  by_cases closed : o.state = .closed
  · rw [State.placeOf, if_pos closed]
    by_cases queued : o.number ∈ s.occupations.archiveQueue
    · obtain ⟨before, after, split, first⟩ := List.eq_append_cons_of_mem queued
      rw [present before after closed split first, split, placeIn_append first]
    · rw [absent (.inr queued), placeIn_eq_none queued]
  · rw [absent (.inl closed), State.placeOf, if_neg closed]

/-- The header of the occupation record (chapter 11.4). -/
def State.occupationHeader (s : State) (o : Occupation) (first shown : Nat) : List Byte :=
  u32 o.number ++ u16 o.station
    ++ [byte o.state.code, byte (presence [o.openTime.isSome, o.closeTime.isSome, (s.placeOf o).isSome])]
    ++ u32 (o.openTime.getD 0) ++ u32 (o.closeTime.getD 0)
    ++ [byte o.results.length, byte (s.engine.pendingAt o.number), byte ((s.placeOf o).getD 0), byte first, byte shown]

theorem State.occupationBytes_eq (s : State) (o : Occupation) (first : Nat) :
    s.occupationBytes o first = s.occupationHeader o first ((o.results.drop first).take 4).length
      ++ ((o.results.drop first).take 4).flatMap ReadingResult.bytes := by
  have place := bare_some_or_zero (enc := u8) (w := 1) (z := 0) rfl (s.placeOf o)
  have opened := bare_some_or_zero (enc := u32) (w := 4) (z := 0) rfl o.openTime
  have closed := bare_some_or_zero (enc := u32) (w := 4) (z := 0) rfl o.closeTime
  unfold State.placeOf at place
  unfold State.occupationBytes State.occupationHeader State.placeOf
  simp only [place, opened, closed, u8_eq, List.append_assoc, List.cons_append, List.nil_append]

theorem ReadingResult.bytes_length (r : ReadingResult) : r.bytes.length = 64 := by
  unfold ReadingResult.bytes ReadingResult.archiveBytes Drops.bytes
  simp only [List.length_append, leNat_length, leInt_length]

/-- Settles O35. -/
theorem tablesAreRead : Obligations.TablesAreRead := by
  refine fun s p tag takes => ⟨fun id => ?_, fun l length other => ?_, fun l length => ⟨?_, ?_, ?_⟩, fun l length n at_n =>
    ⟨?_, ?_, ?_, ?_, ?_, ?_⟩, fun l length n at_n => ⟨?_, ?_, ?_, ?_⟩⟩
  · exact exec_replies (c := .mdrd p tag _) rfl takes (mdrdReply_of_group id)
  · exact exec_replies (c := .mdrd p tag l) rfl takes (mdrdReply_of_no_group length other)
  · exact fun outside => exec_replies (c := .tdcp p tag l) rfl takes (tdcpReply_of_no_number length outside)
  · exact fun one top absent => exec_replies (c := .tdcp p tag l) rfl takes (tdcpReply_of_no_station length ⟨one, top⟩ absent)
  · rintro e v one top held rfl
    exact exec_replies (c := .tdcp p tag l) rfl takes (tdcpReply_of_station length ⟨one, top⟩ held)
  · exact fun selection outside =>
      exec_replies (c := .strd p tag l) rfl takes (strdReply_of_no_number length at_n selection outside)
  · intro selection one top absent
    have rule := strdReply_of_exact (s := s) length at_n selection one top
    rw [absent] at rule
    exact exec_replies (c := .strd p tag l) rfl takes rule
  · exact fun selection past => exec_replies (c := .strd p tag l) rfl takes (strdReply_of_next_past length at_n selection past)
  · intro selection top below
    have rule := strdReply_of_next (s := s) length at_n selection top
    rw [nextAbove_eq_none below] at rule
    exact exec_replies (c := .strd p tag l) rfl takes rule
  · exact fun selection => exec_replies (c := .strd p tag l) rfl takes (strdReply_of_no_selection length selection)
  · intro e chosen
    have rule : strdReply l s = s.stationReply (some e) := by
      rcases chosen with ⟨selection, one, top, held⟩ | ⟨selection, top, distinct, mem, above, least⟩
      · rw [strdReply_of_exact length at_n selection one top, held]
      · rw [strdReply_of_next length at_n selection top, nextAbove_eq_some distinct mem above least]
    exact exec_replies (c := .strd p tag l) rfl takes rule
  · intro selection absent
    have rule := ocrdReply_of_exact (s := s) length at_n selection
    rw [absent] at rule
    exact exec_replies (c := .ocrd p tag l) rfl takes rule
  · intro selection below
    have rule := ocrdReply_of_next (s := s) length at_n selection
    rw [nextAbove_eq_none below] at rule
    exact exec_replies (c := .ocrd p tag l) rfl takes rule
  · exact fun selection => exec_replies (c := .ocrd p tag l) rfl takes (ocrdReply_of_no_selection length selection)
  · rintro o chosen place shown header absent present rfl at_header
    have rule : ocrdReply l s = s.occupationReply (u8At l 5) (some o) := by
      rcases chosen with ⟨selection, held⟩ | ⟨selection, distinct, mem, above, least⟩
      · rw [ocrdReply_of_exact length at_n selection, held]
      · rw [ocrdReply_of_next length at_n selection, nextAbove_eq_some distinct mem above least]
    have same : s.occupationHeader o (u8At l 5) ((o.results.drop (u8At l 5)).take 4).length = header := by
      rw [State.occupationHeader, State.placeOf_eq absent present, at_header]
      cases o.state <;> cases o.openTime <;> cases o.closeTime <;> cases place <;> rfl
    refine ⟨by rw [at_header]; simp, fun r _ => r.bytes_length, ?_⟩
    rw [← same, ← State.occupationBytes_eq]
    exact exec_replies (c := .ocrd p tag l) rfl takes rule

end Sys2Proof.Machine
end

section
/-!
PROOFS. Chapter 7: how a reading starts, arms its gates, is told of the level, of a thermal report and of a step, and ends (R94
to R98, R102, R105 to R109, R111).
-/

namespace Sys2Proof.Machine

variable {s : State} {r : Reading}

/-! ### Arming, waiting, deciding, finishing -/

theorem State.afterGate_of_full (h : r.accepted = r.n) : s.afterGate r = s.finish r := if_pos h

theorem State.afterGate_of_spent (h : r.attempts = r.n + r.r) : s.afterGate r = s.finish r := by
  rw [State.afterGate, if_pos h, ite_self]

theorem State.afterGate_of_unlevel (short : r.accepted ≠ r.n) (left : r.attempts ≠ r.n + r.r) (h : s.level.state = .unlevel) :
    s.afterGate r = s.waitLevel r := by
  simp only [State.afterGate, if_neg short, if_neg left, h]

theorem State.afterGate_of_level (short : r.accepted ≠ r.n) (left : r.attempts ≠ r.n + r.r) (h : s.level.state = .level) :
    s.afterGate r = s.armReading r := by
  simp only [State.afterGate, if_neg short, if_neg left, h]

/-- Settles O44. -/
theorem readingsArmAndEnd : Obligations.ReadingsArmAndEnd := by
  refine ⟨fun s r idle => ?_, fun s r => rfl, fun s r => ⟨State.afterGate_of_full, State.afterGate_of_spent,
    fun short left => ⟨State.afterGate_of_unlevel short left, State.afterGate_of_level short left⟩⟩, ?_⟩
  · rw [State.armReading, State.armGate_of_idle idle]
    rfl
  · rintro s r e x rfl rfl
    exact ⟨fun few => if_neg few.not_ge, fun enough => if_pos enough⟩

/-! ### How a reading starts -/

theorem State.settled_of_level (h : s.level.state = .level) : s.settled r = s.armReading r := by
  simp only [State.settled, h]

theorem State.settled_of_unlevel (h : s.level.state = .unlevel) : s.settled r = s.waitLevel r := by
  simp only [State.settled, h]

theorem execTakeHead_of_none (h : s.engine.reading ≠ none ∨ s.engine.queue = []) : execTakeHead s = .next s := by
  unfold execTakeHead
  split
  next reading queue => exact absurd h (by simp [reading, queue])
  · rfl

/-- The reading in flight with the oldest entry taken (R94, R95). -/
def State.withHead (s : State) (q : QueueEntry) (qs : List QueueEntry) (o : Occupation) : State :=
  { s with engine := { s.engine with
      queue := qs
      reading := some (q.reading o.station s.model.generation (s.inSeconds s.model.groups.gate.settle)) } }

theorem execTakeHead_of_head {q : QueueEntry} {qs : List QueueEntry} {o : Occupation} (reading : s.engine.reading = none)
    (queue : s.engine.queue = q :: qs) (held : s.occupation q.occupation = some o) :
    execTakeHead s = .next
      (if s.model.groups.gate.settle = 0 then
        (s.withHead q qs o).settled (q.reading o.station s.model.generation (s.inSeconds s.model.groups.gate.settle))
      else s.withHead q qs o) := by
  simp only [execTakeHead, reading, queue, held]
  rfl

section
variable {due : Nat}

theorem execSettleExpiry_of_settling (reading : s.engine.reading = some r) (state : r.state = .settling due) :
    execSettleExpiry s = .next (if s.reached due then s.settled r else s) := by
  simp only [execSettleExpiry, reading, state]

theorem execLevelWaitExpiry_of_waiting (reading : s.engine.reading = some r) (state : r.state = .waitLevel due) :
    execLevelWaitExpiry s = .next (if s.reached due then s.endReading r .failed (some .notLevel) else s) := by
  simp only [execLevelWaitExpiry, reading, state]

theorem State.reached_iff : s.reached due = true ↔ due ≤ s.now := decide_eq_true_iff

end

theorem execSettleExpiry_of_other (h : ∀ r due, s.engine.reading = some r → r.state ≠ .settling due) :
    execSettleExpiry s = .next s := by
  unfold execSettleExpiry
  split
  next r reading =>
    split
    next due state => exact absurd state (h r due reading)
    · rfl
  · rfl

theorem execLevelWaitExpiry_of_other (h : ∀ r due, s.engine.reading = some r → r.state ≠ .waitLevel due) :
    execLevelWaitExpiry s = .next s := by
  unfold execLevelWaitExpiry
  split
  next r reading =>
    split
    next due state => exact absurd state (h r due reading)
    · rfl
  · rfl

/-- Settles O45. -/
theorem readingsStart : Obligations.ReadingsStart := by
  refine ⟨fun s => execTakeHead_of_none, ?_, fun s r due reading state => ?_, fun s => execSettleExpiry_of_other,
    fun s r due reading state => ?_, fun s => execLevelWaitExpiry_of_other⟩
  · rintro s u q qs o r reading queue held rfl rfl
    have taken := execTakeHead_of_head reading queue held
    refine ⟨fun settles => taken.trans ?_, fun at_once level => taken.trans ?_, fun at_once unlevel => taken.trans ?_⟩
    · rw [if_neg settles]; rfl
    · rw [if_pos at_once, State.settled_of_level (by exact level)]; rfl
    · rw [if_pos at_once, State.settled_of_unlevel (by exact unlevel)]; rfl
  · have expires := execSettleExpiry_of_settling reading state
    refine ⟨fun early => expires.trans ?_, fun late level => expires.trans ?_, fun late unlevel => expires.trans ?_⟩
    · rw [if_neg (State.reached_iff.not.mpr early.not_ge)]
    · rw [if_pos (State.reached_iff.mpr late), State.settled_of_level level]
    · rw [if_pos (State.reached_iff.mpr late), State.settled_of_unlevel unlevel]
  · have expires := execLevelWaitExpiry_of_waiting reading state
    refine ⟨fun early => expires.trans ?_, fun late => expires.trans ?_⟩
    · rw [if_neg (State.reached_iff.not.mpr early.not_ge)]
    · rw [if_pos (State.reached_iff.mpr late)]; rfl

/-! ### Level notices -/

theorem SensorGate.abandon_of_busy {g : SensorGate} (busy : g.state ≠ .idle) :
    g.abandon = { g with state := .idle, armer := none, edgeCount := 0, refCount := 0, start := none, stop := none,
                         limitDue := none } := if_neg busy

theorem SensorGate.abandon_of_idle {g : SensorGate} (idle : g.state = .idle) : g.abandon = g := if_pos idle

/-- The reading after its COUNTING gate was abandoned (R98). -/
def Reading.offLevel (r : Reading) : Reading :=
  { r with attempts := r.attempts + 1, drops := { r.drops with offLevel := r.drops.offLevel + 1 } }

/-- The state with the outstanding gate abandoned and nothing gathered or kept for it (R98). -/
def State.withGateLost (s : State) : State :=
  { s with gate := s.gate.abandon, engine := { s.engine with acc := .none, kept := [] } }

theorem State.loseLevel_of_idle (idle : s.gate.state = .idle) : s.loseLevel r = s := if_pos idle

theorem State.loseLevel_of_busy {r' : Reading} (busy : s.gate.state ≠ .idle) (armed : s.gate.state = .armed → r' = r)
    (counting : s.gate.state = .counting → r' = r.offLevel) :
    s.loseLevel r = if r'.attempts = r'.n + r'.r then s.withGateLost.finish r' else s.withGateLost.waitLevel r' := by
  cases state : s.gate.state with
  | idle => exact absurd state busy
  | armed => cases armed state; simp only [State.loseLevel, state, reduceCtorEq, if_false]; rfl
  | counting => cases counting state; simp only [State.loseLevel, state, reduceCtorEq, if_false]; rfl

theorem State.noticed_of_idle (h : s.engine.reading = none) (l : LevelState) : s.noticed l = s := by
  simp only [State.noticed, h]

section
variable {l : LevelState}

/-- The reading in flight cares for neither notice in SETTLING and while a report is awaited, for LEVEL alone in WAIT_LEVEL,
and for UNLEVEL alone with a gate outstanding (R95, R96, R98, R99). -/
theorem State.noticed_of_deaf (h : s.engine.reading = some r)
    (deaf : (∃ due, r.state = .settling due) ∨ (∃ g, r.state = .gating (.awaiting g)) ∨
      (l = .level ∧ ∃ g, r.state = .gating (.outstanding g)) ∨ (l = .unlevel ∧ ∃ due, r.state = .waitLevel due)) :
    s.noticed l = s := by
  rcases deaf with ⟨due, state⟩ | ⟨g, state⟩ | ⟨rfl, g, state⟩ | ⟨rfl, due, state⟩ <;> simp only [State.noticed, h, state]

theorem State.noticed_of_waiting {due : Nat} (h : s.engine.reading = some r) (state : r.state = .waitLevel due) :
    s.noticed .level = s.armReading r := by simp only [State.noticed, h, state]

theorem State.noticed_of_outstanding {g : Nat} (h : s.engine.reading = some r) (state : r.state = .gating (.outstanding g)) :
    s.noticed .unlevel = s.loseLevel r := by simp only [State.noticed, h, state]

theorem execLevelNotice_cons {ls : List LevelState} (h : s.engine.levelNotices = l :: ls) :
    execLevelNotice s = .next (State.noticed { s with engine := { s.engine with levelNotices := ls } } l) := by
  simp only [execLevelNotice, h]

end

/-- Settles O46. -/
theorem levelNoticesAct : Obligations.LevelNoticesAct := by
  refine ⟨fun s empty => ?_, ?_⟩
  · change execLevelNotice s = _
    simp only [execLevelNotice, empty]
  · rintro s u l ls waiting rfl
    have taken := execLevelNotice_cons waiting
    refine ⟨fun idle => taken.trans ?_, fun r reading => ⟨fun deaf => taken.trans ?_, ?_, ?_⟩⟩
    · rw [State.noticed_of_idle (by exact idle)]
    · rw [State.noticed_of_deaf (by exact reading) deaf]
    · rintro rfl due state
      rw [← State.noticed_of_waiting (by exact reading) state]
      exact taken
    · rintro g rfl state
      have lost := State.noticed_of_outstanding
        (s := { s with engine := { s.engine with levelNotices := ls } }) reading state
      refine ⟨fun idle => taken.trans ?_, ?_⟩
      · rw [lost, State.loseLevel_of_idle (by exact idle)]
      · rintro busy r' v armed counting rfl
        have kept : r'.n = r.n ∧ r'.r = r.r := by
          cases gate : s.gate.state with
          | idle => exact absurd gate busy
          | armed => rw [armed gate]; exact ⟨rfl, rfl⟩
          | counting => rw [counting gate]; exact ⟨rfl, rfl⟩
        rw [State.loseLevel_of_busy (by exact busy) (by exact armed) (by exact counting), kept.1, kept.2] at lost
        rw [← SensorGate.abandon_of_busy busy]
        refine ⟨fun spent => taken.trans ?_, fun left => taken.trans ?_⟩
        · rw [lost, if_pos spent]; rfl
        · rw [lost, if_neg left]; rfl

/-! ### Thermal reports and step notices -/

section
variable {c : ThermalReport} {l : List ThermalReport}

theorem execThermalReport_of_idle (reports : s.engine.thermalReports = c :: l) (idle : s.engine.reading = none) :
    execThermalReport s = .next { s with engine := { s.engine with thermalReports := l, latestReport := some c } } := by
  simp only [execThermalReport, reports, idle]

/-- A reading that awaits no report of the frame is marked, and the report is kept for it (R102, R109). -/
theorem execThermalReport_of_reading (reports : s.engine.thermalReports = c :: l) (reading : s.engine.reading = some r)
    (other : ∀ h, r.state = .gating (.awaiting h) → h.thermalFrame ≠ c.frame) :
    execThermalReport s = .next (s.withThermalReport r c l) := by
  cases state : (r.sawReport c).state with
  | settling due => simp only [execThermalReport, reports, reading, state]; rfl
  | waitLevel due => simp only [execThermalReport, reports, reading, state]; rfl
  | gating phase =>
    cases phase with
    | outstanding g => simp only [execThermalReport, reports, reading, state]; rfl
    | awaiting h => simp only [execThermalReport, reports, reading, state, if_neg (other h state)]; rfl

theorem execThermalReport_of_awaited {h : HeldGate} (reports : s.engine.thermalReports = c :: l)
    (reading : s.engine.reading = some r) (state : r.state = .gating (.awaiting h)) (same : h.thermalFrame = c.frame) :
    execThermalReport s = (s.withThermalReport r c l).evaluate (r.sawReport c) h c := by
  have saw : (r.sawReport c).state = .gating (.awaiting h) := state
  simp only [execThermalReport, reports, reading, saw, if_pos same]
  rfl

/-- A reading that is not GATING keeps no thermal report. -/
theorem State.withThermalReport_of_idle_gate (outside : ∀ phase, r.state ≠ .gating phase) :
    s.withThermalReport r c l = { s with engine := { s.engine with
      thermalReports := l, latestReport := some c, reading := some (r.sawReport c) } } := by
  have lets_go : r.keeps = false := by
    unfold Reading.keeps
    split
    next phase state => exact absurd state (outside phase)
    · rfl
  simp only [State.withThermalReport, lets_go, Bool.false_eq_true, if_false]

theorem State.withThermalReport_of_gating {phase : GatePhase} (state : r.state = .gating phase) :
    s.withThermalReport r c l = { s with engine := { s.engine with
      thermalReports := l, latestReport := some c, reading := some (r.sawReport c), kept := s.engine.kept ++ [c] } } := by
  simp only [State.withThermalReport, Reading.keeps, state, if_true]

end

section
variable {n : Nat}

theorem execStepNotice_of_unarmed (notices : s.engine.stepNotices = n + 1)
    (unarmed : ∀ r, s.engine.reading = some r → r.firstGateArmed = false) :
    execStepNotice s = .next { s with engine := { s.engine with stepNotices := n } } := by
  cases reading : s.engine.reading with
  | none => simp only [execStepNotice, notices, if_neg (Nat.succ_ne_zero n), Nat.add_sub_cancel, reading]
  | some r =>
    simp only [execStepNotice, notices, if_neg (Nat.succ_ne_zero n), Nat.add_sub_cancel, reading, unarmed r reading,
      Bool.false_eq_true, if_false]

theorem execStepNotice_of_armed (notices : s.engine.stepNotices = n + 1) (reading : s.engine.reading = some r)
    (armed : r.firstGateArmed = true) :
    execStepNotice s = .next { s with engine := { s.engine with
      stepNotices := n, reading := some { r with flags := { r.flags with timeStepped := true } } } } := by
  simp only [execStepNotice, notices, if_neg (Nat.succ_ne_zero n), Nat.add_sub_cancel, reading, armed, if_true]

end

/-- Settles O49. -/
theorem noticesMarkTheReading : Obligations.NoticesMarkTheReading := by
  refine ⟨fun s empty => ?_, ?_, fun s zero => congrArg Host.Outcome.next (if_pos zero), ?_⟩
  · change execThermalReport s = _
    simp only [execThermalReport, empty]
  · rintro s t ts e reports rfl
    refine ⟨execThermalReport_of_idle reports, ?_⟩
    rintro r a reading rfl
    refine ⟨fun outside => ?_, fun gating => ?_, fun h state same => ?_⟩
    · have taken := execThermalReport_of_reading reports reading fun h state => absurd state (outside _)
      rw [State.withThermalReport_of_idle_gate outside] at taken
      exact taken
    · have taken := execThermalReport_of_reading reports reading (by
        rcases gating with ⟨g, state⟩ | ⟨h, state, other⟩
        · exact fun h awaits => absurd (state.symm.trans awaits) (by simp)
        · intro h' awaits
          cases state.symm.trans awaits
          exact other)
      rcases gating with ⟨_, state⟩ | ⟨_, state, _⟩ <;>
        (rw [State.withThermalReport_of_gating state] at taken; exact taken)
    · have taken := execThermalReport_of_awaited reports reading state same
      rw [State.withThermalReport_of_gating state] at taken
      exact taken
  · rintro s n e notices rfl
    exact ⟨execStepNotice_of_unarmed notices, fun r => execStepNotice_of_armed notices⟩

end Sys2Proof.Machine
end

section
/-!
PROOFS. Chapters 6.2 and 7: the calibration lookup, RDRQ and RDCN, and the frames and reports a reading takes for its gate
(R74, R75, R92, R93, R99 to R103, R112 to R114).
-/

namespace Sys2Proof.Machine

variable {s : State} {p : Port} {tag : Byte} {l : List Byte}

/-! ### The calibration lookup -/

theorem CaliSlot.contains_iff {c : CaliSlot} {x : Nat} :
    c.contains x = true ↔ c.enabled = true ∧ c.start ≤ x ∧ x ≤ c.stop := by simp [CaliSlot.contains, and_assoc]

theorem CaliSlot.distance_eq {c : CaliSlot} (order : c.start ≤ c.stop) (x : Nat) :
    c.distance x = (c.start - x) + (x - c.stop) := by
  unfold CaliSlot.distance
  split <;> omega

theorem CaliSlot.boundary_within {c : CaliSlot} (order : c.start ≤ c.stop) (x : Nat) :
    c.start ≤ c.boundary x ∧ c.boundary x ≤ c.stop := by
  unfold CaliSlot.boundary
  split <;> omega

/-- The slot at an index is an enabled one at the least distance, the lowest index among equals (R74). -/
def NearestAt (x : Nat) (slots : List CaliSlot) (i : Nat) (c : CaliSlot) : Prop :=
  slots[i]? = some c ∧ c.enabled = true ∧ ∀ (j : Nat) (d : CaliSlot), slots[j]? = some d → d.enabled = true →
    c.distance x ≤ d.distance x ∧ (j < i → c.distance x < d.distance x)

theorem NearestAt.unique {x i j : Nat} {slots : List CaliSlot} {c d : CaliSlot} (hc : NearestAt x slots i c)
    (hd : NearestAt x slots j d) : c = d := by
  obtain ⟨at_i, on_c, least_c⟩ := hc
  obtain ⟨at_j, on_d, least_d⟩ := hd
  have one := least_c j d at_j on_d
  have other := least_d i c at_i on_c
  have same : i = j := by
    rcases lt_trichotomy i j with lt | same | lt
    · exact absurd (other.2 lt) one.1.not_gt
    · exact same
    · exact absurd (one.2 lt) other.1.not_gt
  exact Option.some.inj (at_i.symm.trans (same ▸ at_j))

theorem NearestAt.cons {x i : Nat} {slots : List CaliSlot} {c d : CaliSlot} (h : NearestAt x slots i d)
    (farther : c.enabled = true → d.distance x < c.distance x) : NearestAt x (c :: slots) (i + 1) d := by
  obtain ⟨at_i, on, least⟩ := h
  refine ⟨at_i, on, fun j e at_j on_e => ?_⟩
  cases j with
  | zero => cases at_j; exact ⟨(farther on_e).le, fun _ => farther on_e⟩
  | succ j => exact (least j e at_j on_e).imp_right fun strict lt => strict (Nat.lt_of_succ_lt_succ lt)

/-- What `nearestSlot` finds (R74). -/
theorem nearestSlot_spec (x : Nat) (slots : List CaliSlot) :
    (nearestSlot x slots = none ∧ ∀ c ∈ slots, c.enabled = false) ∨
      ∃ i c, nearestSlot x slots = some c ∧ NearestAt x slots i c := by
  induction slots with
  | nil => exact .inl ⟨rfl, fun c mem => (by cases mem)⟩
  | cons c cs ih =>
    rcases ih with ⟨nothing, off⟩ | ⟨i, d, found, nearest⟩
    · simp only [nearestSlot, nothing]
      by_cases on : c.enabled = true
      · refine .inr ⟨0, c, if_pos on, rfl, on, fun j e at_j on_e => ?_⟩
        cases j with
        | zero => cases at_j; exact ⟨le_rfl, fun lt => absurd lt (lt_irrefl 0)⟩
        | succ j => exact absurd on_e (by simp [off e (List.mem_of_getElem? at_j)])
      · refine .inl ⟨if_neg on, fun e mem => ?_⟩
        rcases List.mem_cons.mp mem with rfl | mem
        · simpa using on
        · exact off e mem
    · simp only [nearestSlot, found, Bool.and_eq_true, decide_eq_true_eq]
      by_cases closer : c.enabled = true ∧ c.distance x ≤ d.distance x
      · refine .inr ⟨0, c, if_pos closer, rfl, closer.1, fun j e at_j on_e => ⟨?_, fun lt => absurd lt (Nat.not_lt_zero j)⟩⟩
        cases j with
        | zero => cases at_j; exact le_rfl
        | succ j => exact closer.2.trans (nearest.2.2 j e at_j on_e).1
      · exact .inr ⟨i + 1, d, if_neg closer, nearest.cons fun on => not_le.mp fun le => closer ⟨on, le⟩⟩

theorem selectSlot_of_nearest {x i : Nat} {slots : List CaliSlot} {c : CaliSlot}
    (outside : ∀ d ∈ slots, d.contains x ≠ true) (nearest : NearestAt x slots i c) :
    selectSlot slots x = some (c, c.boundary x, true) := by
  have missing : slots.find? (fun d => d.contains x) = none := List.find?_eq_none.mpr outside
  rcases nearestSlot_spec x slots with ⟨-, off⟩ | ⟨j, d, found, nearest'⟩
  · exact absurd nearest.2.1 (by simp [off c (List.mem_of_getElem? nearest.1)])
  · simp only [selectSlot, missing, found, nearest'.unique nearest, Option.map_some]

theorem clampGravity_eq (v : Int) : clampGravity v = max (-2000000000) (min 2000000000 v) := clampInt_eq (by norm_num)

theorem lookup_of_selectSlot {x y : Nat} {slots : List CaliSlot} {c : CaliSlot} {off : Bool}
    (selected : selectSlot slots x = some (c, y, off)) {v : Int} (value : v = c.eval y) :
    lookup slots x = some (max (-2000000000) (min 2000000000 v),
      off || decide (v < -2000000000 ∨ 2000000000 < v)) := by
  have moved : decide (clampGravity v ≠ v) = decide (v < -2000000000 ∨ 2000000000 < v) := by
    rw [clampGravity_eq, decide_eq_decide]
    omega
  rw [← moved, ← clampGravity_eq, value, lookup, selected]
  rfl

/-- Settles O41. -/
theorem lookupSelects : Obligations.LookupSelects := by
  refine fun slots x order => ⟨fun i c at_i on start stop first => ?_, fun i c at_i on nearest => ?_, ?_⟩
  · have found : slots.find? (fun d => d.contains x) = some c := by
      obtain ⟨within, rfl⟩ := List.getElem?_eq_some_iff.mp at_i
      refine List.find?_eq_some_iff_getElem.mpr ⟨CaliSlot.contains_iff.mpr ⟨on, start, stop⟩, i, within, rfl, fun j lt => ?_⟩
      rw [Bool.not_eq_true', ← Bool.not_eq_true]
      intro contains
      obtain ⟨on_j, inside⟩ := CaliSlot.contains_iff.mp contains
      exact first j _ lt (List.getElem?_eq_getElem (lt.trans within)) on_j inside
    simp only [selectSlot, found]
  · refine selectSlot_of_nearest (i := i) (fun d mem contains => ?_) ⟨at_i, on, fun j d at_j on_d => ?_⟩
    · obtain ⟨j, at_j⟩ := List.mem_iff_getElem?.mp mem
      obtain ⟨on_d, inside⟩ := CaliSlot.contains_iff.mp contains
      exact (nearest j d at_j on_d).1 inside
    · rw [CaliSlot.distance_eq (order c (List.mem_of_getElem? at_i) on),
        CaliSlot.distance_eq (order d (List.mem_of_getElem? at_j) on_d)]
      exact (nearest j d at_j on_d).2
  · rintro ⟨e, mem_e, on_e⟩
    rcases found : slots.find? (fun d => d.contains x) with _ | c
    · rcases nearestSlot_spec x slots with ⟨-, off⟩ | ⟨i, c, -, nearest⟩
      · exact absurd on_e (by simp [off e mem_e])
      · have selected := selectSlot_of_nearest (List.find?_eq_none.mp found) nearest
        have mem := List.mem_of_getElem? nearest.1
        have on := nearest.2.1
        obtain ⟨low, high⟩ := CaliSlot.boundary_within (order c mem on) x
        exact ⟨c, _, true, mem, on, low, high, selected, fun v value => lookup_of_selectSlot selected value⟩
    · have selected : selectSlot slots x = some (c, x, false) := by simp only [selectSlot, found]
      obtain ⟨on, start, stop⟩ := CaliSlot.contains_iff.mp (List.find?_some (p := fun d : CaliSlot => d.contains x) found)
      exact ⟨c, x, false, List.mem_of_find?_eq_some found, on, start, stop, selected,
        fun v value => lookup_of_selectSlot selected value⟩

/-! ### RDRQ -/

theorem Window.holds_iff {w : Window} {n : Nat} : w.holds n = true ↔ w.writeProtect = false ∧ w.first ≤ n ∧ n ≤ w.last := by
  simp [Window.holds, and_assoc]

/-- The readings pending for an occupation, counted (R128). -/
theorem Engine.pendingAt_eq (e : Engine) (occ : Nat) : e.pendingAt occ =
    e.queue.countP (fun q => decide (q.occupation = occ)) +
      (if ∃ r, e.reading = some r ∧ r.occupation = occ then 1 else 0) := by
  have in_flight : e.inFlightAt occ = true ↔ ∃ r, e.reading = some r ∧ r.occupation = occ := by
    cases reading : e.reading <;> simp [Engine.inFlightAt, reading]
  rw [Engine.pendingAt]
  exact congrArg _ (if_congr in_flight rfl rfl)

theorem Engine.tickets_eq (e : Engine) : e.tickets = e.queue.map (·.ticket) ++ (e.reading.map (·.ticket)).toList := by
  cases reading : e.reading <;> simp [Engine.tickets, reading]

section
variable {o : Occupation}

theorem rdrqReply_of_setup (length : l.length = 8) (setup : s.model.mode = .setup) : rdrqReply p l s = s.refuse .mode := by
  rw [rdrqReply, State.sized_length s length, if_pos setup]

theorem rdrqReply_of_unset (length : l.length = 8) (survey : s.model.mode = .survey) (unset : s.clock.time = .unset) :
    rdrqReply p l s = s.refuse .time := by
  rw [rdrqReply, State.sized_length s length, if_neg (by simp [survey]), if_pos unset]

section
variable (length : l.length = 8) (survey : s.model.mode = .survey) (set : s.clock.time = .set)
include length survey set

theorem rdrqReply_of_no_occupation (absent : s.occupation (u32At l 0) = none) : rdrqReply p l s = s.refuse .none := by
  rw [rdrqReply, State.sized_length s length, if_neg (by simp [survey]), if_neg (by simp [set])]
  simp only [absent]

variable (held : s.occupation (u32At l 0) = some o)
include held

theorem rdrqReply_of_shut (shut : o.state ≠ .isOpen) : rdrqReply p l s = s.refuse .shut := by
  rw [rdrqReply, State.sized_length s length, if_neg (by simp [survey]), if_neg (by simp [set])]
  simp only [held, if_pos shut]

theorem rdrqReply_of_denied (opened : o.state = .isOpen) (denied : (s.model.groups.window p).holds o.station = false) :
    rdrqReply p l s = s.refuse .deny := by
  rw [rdrqReply, State.sized_length s length, if_neg (by simp [survey]), if_neg (by simp [set])]
  simp only [held, opened, denied, ne_eq, not_true_eq_false, if_false, Bool.not_false, if_true]

variable (opened : o.state = .isOpen) (permitted : (s.model.groups.window p).holds o.station = true)
include opened permitted

theorem rdrqReply_of_full_queue (full : s.engine.queue.length = 4) : rdrqReply p l s = ⟨.full, u8 0, s⟩ := by
  rw [rdrqReply, State.sized_length s length, if_neg (by simp [survey]), if_neg (by simp [set])]
  simp only [held, opened, permitted, ne_eq, not_true_eq_false, if_false, Bool.not_true, Bool.false_eq_true, if_pos full]

theorem rdrqReply_of_full_list (room : s.engine.queue.length ≠ 4)
    (full : o.results.length + s.engine.pendingAt (u32At l 0) = 8) : rdrqReply p l s = ⟨.full, u8 1, s⟩ := by
  rw [rdrqReply, State.sized_length s length, if_neg (by simp [survey]), if_neg (by simp [set])]
  simp only [held, opened, permitted, ne_eq, not_true_eq_false, if_false, Bool.not_true, Bool.false_eq_true, if_neg room,
    if_pos full]

theorem rdrqReply_of_accepted {n m r k : Nat} (room : s.engine.queue.length ≠ 4)
    (places : o.results.length + s.engine.pendingAt (u32At l 0) ≠ 8) (hn : clampNat 1 32 (u8At l 4) = n)
    (hm : clampNat 1 n (u8At l 5) = m) (hr : clampNat 0 32 (u8At l 6) = r) (hk : clampNat 10 16 (u8At l 7) = k) :
    rdrqReply p l s = ⟨if n = u8At l 4 ∧ m = u8At l 5 ∧ r = u8At l 6 ∧ k = u8At l 7 then .okay else .clmp,
      u16 s.engine.nextTicket ++ u8 n ++ u8 m ++ u8 r ++ u8 k,
      { s with engine := s.engine.accept p (u32At l 0) n m r k }⟩ := by
  rw [rdrqReply, State.sized_length s length, if_neg (by simp [survey]), if_neg (by simp [set])]
  simp only [held, opened, permitted, ne_eq, not_true_eq_false, if_false, Bool.not_true, Bool.false_eq_true, if_neg room,
    if_neg places, hn, hm, hr, hk, decide_eq_true_eq]

end
end

/-- Settles O43. -/
theorem rdrqQueues : Obligations.RdrqQueues := by
  intro s p tag l takes length
  refine ⟨fun setup => ?_, fun survey unset => ?_, fun survey set => ⟨fun absent => ?_, ?_⟩⟩
  · exact exec_replies (c := .rdrq p tag l) rfl takes (rdrqReply_of_setup length setup)
  · exact exec_replies (c := .rdrq p tag l) rfl takes (rdrqReply_of_unset length survey unset)
  · exact exec_replies (c := .rdrq p tag l) rfl takes (rdrqReply_of_no_occupation length survey set absent)
  rintro o w held rfl
  refine ⟨fun shut => ?_, fun opened outside => ?_, fun opened unprotected low high => ?_⟩
  · exact exec_replies (c := .rdrq p tag l) rfl takes (rdrqReply_of_shut length survey set held shut)
  · have denied : (s.model.groups.window p).holds o.station = false :=
      Bool.not_eq_true _ ▸ Window.holds_iff.not.mpr outside
    exact exec_replies (c := .rdrq p tag l) rfl takes (rdrqReply_of_denied length survey set held opened denied)
  have permitted := Window.holds_iff.mpr ⟨unprotected, low, high⟩
  rw [Nat.add_assoc, ← Engine.pendingAt_eq]
  refine ⟨fun full => ?_, fun room full => ?_, fun room places n m r k hn hm hr hk after queue held' next hafter hqueue hheld
    hnext => ?_⟩
  · exact exec_replies (c := .rdrq p tag l) rfl takes
      (rdrqReply_of_full_queue length survey set held opened permitted full)
  · exact exec_replies (c := .rdrq p tag l) rfl takes
      (rdrqReply_of_full_list length survey set held opened permitted room full)
  have wraps : after = ticketAfter := funext hafter
  subst wraps hqueue
  have tickets : held' = Engine.tickets { s.engine with queue := s.engine.queue ++
      [⟨s.engine.nextTicket, p, u32At l 0, n, m, r, k⟩] } := by rw [hheld, Engine.tickets_eq]
  refine ⟨fun short => ?_, ?_⟩
  · rw [hnext, ticketAfter_eq]
    refine cycle_firstFree ?_
    rw [hheld]
    cases s.engine.reading <;> simp <;> omega
  · have accepted := rdrqReply_of_accepted (n := n) (m := m) (r := r) (k := k) length survey set held opened permitted room
      places (by rw [hn, clampNat_eq (by omega)]) (by rw [hm, clampNat_eq (by omega)])
      (by rw [hr, clampNat_eq (by omega)]; omega) (by rw [hk, clampNat_eq (by omega)])
    rw [Engine.accept, ← tickets, ← hnext] at accepted
    simp only [u8_eq, List.append_assoc, List.cons_append, List.nil_append] at accepted
    exact exec_replies (c := .rdrq p tag l) rfl takes accepted

end Sys2Proof.Machine
end

section
/-!
PROOFS. Chapters 7.3, 7.4 and 7.6: the frames and reports a reading takes for its gate, and RDCN (R99 to R103, R112 to R114).
-/

namespace Sys2Proof.Machine

variable {s : State} {r : Reading} {p : Port} {tag : Byte} {l : List Byte}

/-! ### The gate a reading waits on -/

theorem Engine.outstanding_of_reading {e : Engine} {gate : Nat} (reading : e.reading = some r)
    (state : r.state = .gating (.outstanding gate)) : e.outstanding = some gate := by
  simp only [Engine.outstanding, reading, state]

theorem Engine.outstanding_of_other {e : Engine} {gate : Nat}
    (other : ∀ r, e.reading = some r → r.state ≠ .gating (.outstanding gate)) : e.outstanding ≠ some gate := by
  intro outstanding
  obtain ⟨r, reading, state⟩ := Engine.outstanding_eq_some outstanding
  exact other r reading state

theorem Engine.waitingOn_of_reading {e : Engine} {gate : Nat} (reading : e.reading = some r)
    (state : r.state = .gating (.outstanding gate)) : e.waitingOn gate = some r := by
  rw [Engine.waitingOn, if_pos (Engine.outstanding_of_reading reading state), reading]

theorem Engine.waitingOn_of_other {e : Engine} {gate : Nat}
    (other : ∀ r, e.reading = some r → r.state ≠ .gating (.outstanding gate)) : e.waitingOn gate = none :=
  if_neg (Engine.outstanding_of_other other)

theorem Engine.frameWaiting_iff {e : Engine} {gate : Nat} : e.frameWaiting gate = true ↔ ∃ f ∈ e.frames, f.gate = gate := by
  simp [Engine.frameWaiting]

theorem Engine.frameWaiting_eq_false {e : Engine} {gate : Nat} (h : ∀ f ∈ e.frames, f.gate ≠ gate) :
    e.frameWaiting gate = false := by
  rw [← Bool.not_eq_true, Engine.frameWaiting_iff]
  rintro ⟨f, mem, same⟩
  exact h f mem same

/-! ### The oldest report of a kind -/

theorem takeTimeoutReport_append {g k : Nat} {first : Option Stamp} {before : List GateReport}
    (none_before : ∀ g k t, GateReport.timeout g k t ∉ before) (after : List GateReport) :
    takeTimeoutReport (before ++ .timeout g k first :: after) = some (g, before ++ after) := by
  induction before with
  | nil => rfl
  | cons x xs ih =>
    have rest := ih fun g k t mem => none_before g k t (List.mem_cons_of_mem _ mem)
    cases x with
    | completion c => simp only [List.cons_append, takeTimeoutReport, rest, Option.map_some]
    | timeout g k t => exact absurd (List.mem_cons_self ..) (none_before g k t)

theorem takeTimeoutReport_eq_none {reports : List GateReport} (h : ∀ g k t, GateReport.timeout g k t ∉ reports) :
    takeTimeoutReport reports = none := by
  induction reports with
  | nil => rfl
  | cons x xs ih =>
    have rest := ih fun g k t mem => h g k t (List.mem_cons_of_mem _ mem)
    cases x with
    | completion c => simp only [takeTimeoutReport, rest, Option.map_none]
    | timeout g k t => exact absurd (List.mem_cons_self ..) (h g k t)

theorem takeCompletionReport_append {c : Completion} {before : List GateReport}
    (none_before : ∀ d, GateReport.completion d ∉ before) (after : List GateReport) :
    takeCompletionReport (before ++ .completion c :: after) = some (c, before ++ after) := by
  induction before with
  | nil => rfl
  | cons x xs ih =>
    have rest := ih fun d mem => none_before d (List.mem_cons_of_mem _ mem)
    cases x with
    | timeout g k t => simp only [List.cons_append, takeCompletionReport, rest, Option.map_some]
    | completion d => exact absurd (List.mem_cons_self ..) (none_before d)

theorem takeCompletionReport_eq_none {reports : List GateReport} (h : ∀ c, GateReport.completion c ∉ reports) :
    takeCompletionReport reports = none := by
  induction reports with
  | nil => rfl
  | cons x xs ih =>
    have rest := ih fun d mem => h d (List.mem_cons_of_mem _ mem)
    cases x with
    | timeout g k t => simp only [takeCompletionReport, rest, Option.map_none]
    | completion d => exact absurd (List.mem_cons_self ..) (h d)

/-! ### Frames and reports taken -/

/-- The frames on their way to the engine replaced. -/
def State.withGateFrames (s : State) (fs : List GateFrame) : State := { s with engine := { s.engine with frames := fs } }

theorem execGateAccumulatorFrame_of_other {f : GateFrame} {fs : List GateFrame} (frames : s.engine.frames = f :: fs)
    (other : ∀ r, s.engine.reading = some r → r.state ≠ .gating (.outstanding f.gate)) :
    execGateAccumulatorFrame s = .next (s.withGateFrames fs) := by
  have elsewhere : Engine.outstanding { s.engine with frames := fs } ≠ some f.gate := Engine.outstanding_of_other other
  simp only [execGateAccumulatorFrame, frames, if_neg elsewhere]
  rfl

theorem execGateAccumulatorFrame_of_outstanding {f : GateFrame} {fs : List GateFrame} (frames : s.engine.frames = f :: fs)
    (reading : s.engine.reading = some r) (state : r.state = .gating (.outstanding f.gate)) :
    execGateAccumulatorFrame s = .next { s.withGateFrames fs with
      engine := { (s.withGateFrames fs).engine with acc := s.engine.acc.add s.model.groups.tilt f.frame } } := by
  have here : Engine.outstanding { s.engine with frames := fs } = some f.gate := Engine.outstanding_of_reading reading state
  simp only [execGateAccumulatorFrame, frames, if_pos here]
  rfl

theorem GateAccumulator.add_first {a : GateAccumulator} (h : a.n = 0) (g : TiltGroup) (f : Frame) :
    a.add g f = ⟨1, a.sumX + g.tiltX f, a.sumY + g.tiltY f, g.tiltX f, g.tiltX f, g.tiltY f, g.tiltY f, some f.id⟩ := by
  simp only [GateAccumulator.add, h, if_true, Nat.zero_add]

theorem GateAccumulator.add_next {a : GateAccumulator} (h : 0 < a.n) (g : TiltGroup) (f : Frame) :
    a.add g f = ⟨a.n + 1, a.sumX + g.tiltX f, a.sumY + g.tiltY f, min a.leastX (g.tiltX f), max a.greatestX (g.tiltX f),
      min a.leastY (g.tiltY f), max a.greatestY (g.tiltY f), some f.id⟩ := by
  simp only [GateAccumulator.add, if_neg h.ne']

section
variable {g : Nat} {rest : List GateReport}

theorem execTimeoutReport_of_frame_waiting (taken : takeTimeoutReport s.engine.reports = some (g, rest))
    (waits : ∃ f ∈ s.engine.frames, f.gate = g) : execTimeoutReport s = .next s := by
  simp only [execTimeoutReport, taken, Engine.frameWaiting_iff.mpr waits, if_true]

theorem execTimeoutReport_of_other (taken : takeTimeoutReport s.engine.reports = some (g, rest))
    (no_frame : ∀ f ∈ s.engine.frames, f.gate ≠ g)
    (other : ∀ r, s.engine.reading = some r → r.state ≠ .gating (.outstanding g)) :
    execTimeoutReport s = .next (s.withReports rest) := by
  simp only [execTimeoutReport, taken, Engine.frameWaiting_eq_false no_frame, Bool.false_eq_true, if_false,
    Engine.waitingOn_of_other other]
  rfl

theorem execTimeoutReport_of_outstanding (taken : takeTimeoutReport s.engine.reports = some (g, rest))
    (no_frame : ∀ f ∈ s.engine.frames, f.gate ≠ g) (reading : s.engine.reading = some r)
    (state : r.state = .gating (.outstanding g)) :
    execTimeoutReport s = .next ((s.withReports rest).gateOver.afterGate r.unsignalled) := by
  simp only [execTimeoutReport, taken, Engine.frameWaiting_eq_false no_frame, Bool.false_eq_true, if_false,
    Engine.waitingOn_of_reading reading state]
  rfl

end

section
variable {c : Completion} {rest : List GateReport}

theorem execCompletionReport_of_frame_waiting (taken : takeCompletionReport s.engine.reports = some (c, rest))
    (waits : ∃ f ∈ s.engine.frames, f.gate = c.gate) : execCompletionReport s = .next s := by
  simp only [execCompletionReport, taken, Engine.frameWaiting_iff.mpr waits, if_true]

theorem execCompletionReport_of_other (taken : takeCompletionReport s.engine.reports = some (c, rest))
    (no_frame : ∀ f ∈ s.engine.frames, f.gate ≠ c.gate)
    (other : ∀ r, s.engine.reading = some r → r.state ≠ .gating (.outstanding c.gate)) :
    execCompletionReport s = .next (s.withReports rest) := by
  simp only [execCompletionReport, taken, Engine.frameWaiting_eq_false no_frame, Bool.false_eq_true, if_false,
    Engine.waitingOn_of_other other]
  rfl

theorem execCompletionReport_of_outstanding (taken : takeCompletionReport s.engine.reports = some (c, rest))
    (no_frame : ∀ f ∈ s.engine.frames, f.gate ≠ c.gate) (reading : s.engine.reading = some r)
    (state : r.state = .gating (.outstanding c.gate)) :
    execCompletionReport s = (s.withReports rest).takeCompletion r c := by
  simp only [execCompletionReport, taken, Engine.frameWaiting_eq_false no_frame, Bool.false_eq_true, if_false,
    Engine.waitingOn_of_reading reading state]
  rfl

variable {h : HeldGate}

theorem State.takeCompletion_of_awaited (settled : settleGate s.engine.acc s.model.groups.tilt s.scan.latest c = some h)
    (missing : ∀ t ∈ s.engine.kept, t.frame ≠ h.thermalFrame) :
    s.takeCompletion r c = .next (s.withReading { r with state := .gating (.awaiting h) }) := by
  have none_kept : s.engine.kept.find? (fun t => decide (t.frame = h.thermalFrame)) = none := by simpa using missing
  simp only [State.takeCompletion, settled, none_kept]

theorem State.takeCompletion_of_kept {t : ThermalReport}
    (settled : settleGate s.engine.acc s.model.groups.tilt s.scan.latest c = some h)
    (kept : s.engine.kept.find? (fun t => decide (t.frame = h.thermalFrame)) = some t) :
    s.takeCompletion r c = s.evaluate r h t := by
  simp only [State.takeCompletion, settled, kept]

end

theorem settleGate_of_frames {a : GateAccumulator} {id : Nat} (frame : a.thermalFrame = some id) (g : TiltGroup)
    (latest : Option Frame) (c : Completion) : settleGate a g latest c =
      some ⟨c, roundDiv a.sumX a.n, roundDiv a.sumY a.n, a.greatestX - a.leastX, a.greatestY - a.leastY, id⟩ := by
  simp only [settleGate, frame]

theorem settleGate_of_latest {a : GateAccumulator} (no_frame : a.thermalFrame = none) (g : TiltGroup) (f : Frame)
    (c : Completion) : settleGate a g (some f) c = some ⟨c, g.tiltX f, g.tiltY f, 0, 0, f.id⟩ := by
  simp only [settleGate, no_frame]

/-- Settles O47. -/
theorem gateReportsAreTaken : Obligations.GateReportsAreTaken := by
  refine ⟨fun s empty => ?_, ?_, fun s none_left => ?_, fun s none_left => ?_, ?_, ?_⟩
  · change execGateAccumulatorFrame s = _
    simp only [execGateAccumulatorFrame, empty]
  · rintro s u f gate fs frames rfl
    refine ⟨execGateAccumulatorFrame_of_other frames, ?_⟩
    rintro r a b x y reading state rfl rfl rfl first later
    have joined := execGateAccumulatorFrame_of_outstanding frames reading state
    have sum : s.engine.acc.add s.model.groups.tilt f = b := by
      rcases Nat.eq_zero_or_pos s.engine.acc.n with empty | some_taken
      · rw [first empty, GateAccumulator.add_first empty]
      · rw [later some_taken, GateAccumulator.add_next some_taken]
    rw [sum] at joined
    exact joined
  · change execTimeoutReport s = _
    simp only [execTimeoutReport, takeTimeoutReport_eq_none none_left]
  · change execCompletionReport s = _
    simp only [execCompletionReport, takeCompletionReport_eq_none none_left]
  · rintro s u g k first before after reports none_before rfl
    have taken : takeTimeoutReport s.engine.reports = some (g, before ++ after) := by
      rw [reports]; exact takeTimeoutReport_append none_before after
    exact ⟨execTimeoutReport_of_frame_waiting taken, fun no_frame =>
      ⟨execTimeoutReport_of_other taken no_frame, fun r => execTimeoutReport_of_outstanding taken no_frame⟩⟩
  · rintro s u c before after reports none_before rfl
    have taken : takeCompletionReport s.engine.reports = some (c, before ++ after) := by
      rw [reports]; exact takeCompletionReport_append none_before after
    refine ⟨execCompletionReport_of_frame_waiting taken, fun no_frame => ⟨execCompletionReport_of_other taken no_frame, ?_⟩⟩
    rintro r a h reading state rfl settles
    have outstanding := execCompletionReport_of_outstanding taken no_frame reading state
    have settled : settleGate s.engine.acc s.model.groups.tilt s.scan.latest c = some h := by
      rcases settles with ⟨id, frame, rfl⟩ | ⟨f, no_frame, latest, rfl⟩
      · exact settleGate_of_frames frame ..
      · rw [latest]; exact settleGate_of_latest no_frame ..
    exact ⟨fun missing => outstanding.trans (State.takeCompletion_of_awaited settled missing),
      fun t kept => outstanding.trans (State.takeCompletion_of_kept settled kept)⟩

/-! ### RDCN -/

section
variable {ticket : Nat} (length : l.length = 2) (at_ticket : ticket = u16At l 0)
include length at_ticket

theorem rdcnReply_of_unheld (unqueued : ∀ q ∈ s.engine.queue, q.ticket ≠ ticket)
    (not_in_flight : ∀ r, s.engine.reading = some r → r.ticket ≠ ticket) : rdcnReply p l s = s.refuse .none := by
  subst at_ticket
  have missing : s.engine.queue.find? (fun q => decide (q.ticket = u16At l 0)) = none := by simpa using unqueued
  rw [rdcnReply, State.sized_length s length]
  cases reading : s.engine.reading with
  | none => simp only [missing]
  | some r => simp only [missing, if_pos (not_in_flight r reading)]

theorem rdcnReply_of_queued {q : QueueEntry} (found : s.engine.queue.find? (fun q => decide (q.ticket = ticket)) = some q) :
    rdcnReply p l s = if q.port = p then ⟨.okay, u16 ticket ++ u8 0, s.cancelQueued q⟩ else s.refuse .deny := by
  subst at_ticket
  rw [rdcnReply, State.sized_length s length]
  simp only [found]

theorem rdcnReply_of_in_flight (unqueued : ∀ q ∈ s.engine.queue, q.ticket ≠ ticket) (reading : s.engine.reading = some r)
    (holds : r.ticket = ticket) :
    rdcnReply p l s = if r.port = p then ⟨.okay, u16 ticket ++ u8 1, s.cancelInFlight r⟩ else s.refuse .deny := by
  subst at_ticket
  have missing : s.engine.queue.find? (fun q => decide (q.ticket = u16At l 0)) = none := by simpa using unqueued
  rw [rdcnReply, State.sized_length s length]
  simp only [missing, reading, if_neg (not_not.mpr holds)]

end

/-- Of tickets that are distinct, only one entry holds a queued one. -/
theorem queue_of_distinct {queue before after : List QueueEntry} {q : QueueEntry} (split : queue = before ++ q :: after)
    (distinct : (queue.map (·.ticket)).Nodup) :
    queue.find? (fun x => decide (x.ticket = q.ticket)) = some q ∧
      queue.filter (fun x => decide (x.ticket ≠ q.ticket)) = before ++ after := by
  subst split
  rw [List.map_append, List.map_cons, List.nodup_middle, List.nodup_cons, ← List.map_append] at distinct
  have others : ∀ x ∈ before ++ after, x.ticket ≠ q.ticket := fun x mem same =>
    distinct.1 (List.mem_map.mpr ⟨x, mem, same⟩)
  have missing : before.find? (fun x => decide (x.ticket = q.ticket)) = none := by
    simpa using fun x mem => others x (List.mem_append_left _ mem)
  have kept (part : List QueueEntry) (h : ∀ x ∈ part, x.ticket ≠ q.ticket) :
      part.filter (fun x => decide (x.ticket ≠ q.ticket)) = part := List.filter_eq_self.mpr (by simpa using h)
  refine ⟨?_, ?_⟩
  · rw [List.find?_append, missing, Option.none_or, List.find?_cons_of_pos (by simp)]
  · rw [List.filter_append, List.filter_cons_of_neg (by simp), kept before fun x mem => others x (List.mem_append_left _ mem),
      kept after fun x mem => others x (List.mem_append_right _ mem)]

theorem State.cancelInFlight_of_outstanding {n : Nat} (state : r.state = .gating (.outstanding n)) :
    s.cancelInFlight r = State.endReading { s with gate := s.gate.abandon } r .aborted (some .inFlight) := by
  simp only [State.cancelInFlight, state]

theorem State.cancelInFlight_of_no_gate (no_gate : ∀ n, r.state ≠ .gating (.outstanding n)) :
    s.cancelInFlight r = s.endReading r .aborted (some .inFlight) := by
  unfold State.cancelInFlight
  split
  next n state => exact absurd state (no_gate n)
  · rfl

/-- The reading in flight cancelled, over the gate it leaves (R6, R114). -/
theorem State.cancelInFlight_eq {g : SensorGate}
    (lost : (∃ n, r.state = .gating (.outstanding n)) → s.gate.state ≠ .idle →
      g = { s.gate with state := .idle, armer := none, edgeCount := 0, refCount := 0, start := none, stop := none,
                        limitDue := none })
    (stays : (∀ n, r.state ≠ .gating (.outstanding n)) ∨ s.gate.state = .idle → g = s.gate) :
    s.cancelInFlight r = State.endReading { s with gate := g } r .aborted (some .inFlight) := by
  by_cases outstanding : ∃ n, r.state = .gating (.outstanding n)
  · obtain ⟨n, state⟩ := outstanding
    rw [State.cancelInFlight_of_outstanding state]
    by_cases idle : s.gate.state = .idle
    · rw [SensorGate.abandon_of_idle idle, stays (.inr idle)]
    · rw [SensorGate.abandon_of_busy idle, lost ⟨n, state⟩ idle]
  · have no_gate := not_exists.mp outstanding
    rw [State.cancelInFlight_of_no_gate no_gate, stays (.inl no_gate)]

/-- Settles O50. -/
theorem rdcnCancels : Obligations.RdcnCancels := by
  intro s p tag l ticket takes length at_ticket
  refine ⟨fun unqueued not_in_flight => ?_, ?_, fun r unqueued reading holds => ?_⟩
  · exact exec_replies (c := .rdcn p tag l) rfl takes (rdcnReply_of_unheld length at_ticket unqueued not_in_flight)
  · rintro before after q split distinct rfl
    obtain ⟨found, left⟩ := queue_of_distinct split distinct
    have rule (p : Port) := rdcnReply_of_queued (p := p) length at_ticket found
    refine ⟨fun other => ?_, ?_⟩
    · exact exec_replies (c := .rdcn p tag l) rfl takes ((rule p).trans (if_neg other))
    · rintro rfl
      have taken := (rule q.port).trans (if_pos rfl)
      rw [State.cancelQueued, left] at taken
      exact exec_replies (c := .rdcn q.port tag l) rfl takes taken
  · have rule (p : Port) := rdcnReply_of_in_flight (p := p) length at_ticket unqueued reading holds
    refine ⟨fun other => ?_, ?_⟩
    · exact exec_replies (c := .rdcn p tag l) rfl takes ((rule p).trans (if_neg other))
    · rintro rfl g lost stays
      have taken := (rule r.port).trans (if_pos rfl)
      rw [State.cancelInFlight_eq lost stays, State.endReading, holds] at taken
      exact exec_replies (c := .rdcn r.port tag l) rfl takes taken

end Sys2Proof.Machine
end

section
/-!
PROOFS. Chapters 9.1, 9.6 and 11.5: what a page reads as while its program runs and once it is committed, and the newest and
the oldest record (R138, R143, R144, R151, R152, R177).
-/

namespace Sys2Proof.Machine

/-! ### Runs of bytes read back -/

theorem readRun_congr {m n : List Host.Cell} (hm : CellsWf m) (hn : CellsWf n) {a k : Nat}
    (same : ∀ b, a ≤ b → b < a + k → readCell m b = readCell n b) : readRun m a k = readRun n a k := by
  rw [readRun_eq hm, readRun_eq hn]
  exact List.map_congr_left fun i mem => same (a + i) (by omega) (by simp at mem; omega)

/-- A run that begins where bytes were written reads them, and then what follows them. -/
theorem readRun_writeRun {m : List Host.Cell} (h : CellsWf m) (a : Nat) (vs : List Byte) (k : Nat) :
    readRun (writeRun m a vs) a (vs.length + k) = vs ++ readRun m (a + vs.length) k := by
  rw [readRun_eq (h.writeRun a vs), readRun_eq h, List.range_add, List.map_append, List.map_map]
  congr 1
  · refine List.ext_getElem (by simp) fun i below within => ?_
    rw [List.getElem_map, List.getElem_range, readCell_writeRun_inside m within, List.getD_eq_getElem _ _ within]
  · refine List.map_congr_left fun i _ => ?_
    rw [Function.comp_apply, readCell_writeRun_outside m (by omega), Nat.add_assoc]

theorem readRun_eraseRun {m : List Host.Cell} (h : CellsWf m) {a b n k : Nat} (within : a ≤ b ∧ b + k ≤ a + n) :
    readRun (eraseRun m a n) b k = List.replicate k erasedByte := by
  rw [readRun_eq (h.eraseRun a n)]
  refine List.eq_replicate_iff.mpr ⟨by simp, fun v mem => ?_⟩
  obtain ⟨i, below, rfl⟩ := List.mem_map.mp mem
  exact readCell_eraseRun_inside m (by simp at below; omega)

/-! ### The judgement of a page -/

theorem byteSum_le (l : List Byte) : byteSum l ≤ l.length * 255 := by
  have bound := List.sum_le_card_nsmul (l.map (·.toNat)) 255 fun n mem => by
    obtain ⟨b, -, rfl⟩ := List.mem_map.mp mem
    exact Nat.le_of_lt_succ b.isLt
  rw [byteSum_eq]
  simpa using bound

theorem judgePage_eq_erased {l : List Byte} : judgePage l = .erased ↔ ∀ b ∈ l, b = 0xFF := by
  have all_erased : l.all (fun b => decide (b = erasedByte)) = true ↔ ∀ b ∈ l, b = 0xFF := by
    simp only [List.all_eq_true, decide_eq_true_eq]; rfl
  unfold judgePage
  split
  next yes => exact iff_of_true rfl (all_erased.mp yes)
  next no =>
    refine iff_of_false ?_ (all_erased.not.mp no)
    split <;> simp

theorem judgePage_eq_valid {l : List Byte} : judgePage l = .valid ↔ (∃ b ∈ l, b ≠ 0xFF) ∧ l.drop 508 = completionMarker ∧
    u32At l 504 = byteSum (l.take 504) := by
  have written : (∃ b ∈ l, b ≠ 0xFF) ↔ judgePage l ≠ .erased := by
    rw [Ne, judgePage_eq_erased]; push Not; rfl
  rw [written]
  unfold judgePage
  split
  · simp
  · split
    next holds => simp [holds]
    next fails => simp [fails]

theorem judgePage_eq_invalid {l : List Byte} (written : ∃ b ∈ l, b ≠ 0xFF) (unmarked : l.drop 508 ≠ completionMarker) :
    judgePage l = .invalid := by
  cases judged : judgePage l with
  | erased =>
    obtain ⟨b, mem, other⟩ := written
    exact absurd (judgePage_eq_erased.mp judged b mem) other
  | valid => exact absurd (judgePage_eq_valid.mp judged).2.1 unmarked
  | invalid => rfl

/-! ### Pages programmed -/

theorem ReadingResult.archiveBytes_length (r : ReadingResult) : r.archiveBytes.length = 58 := by
  unfold ReadingResult.archiveBytes Drops.bytes
  simp only [List.length_append, leNat_length, leInt_length]

section
variable {r : StagedRecord} (fits : r.results.length ≤ 8)
include fits

theorem StagedRecord.bytes_length : r.bytes.length = 504 := by
  have results : (r.results.flatMap ReadingResult.archiveBytes).length = 58 * r.results.length := by
    rw [List.length_flatMap, List.map_congr_left fun x _ => x.archiveBytes_length, List.map_const', List.sum_replicate,
      smul_eq_mul, Nat.mul_comm]
  unfold StagedRecord.bytes
  simp only [List.length_append, leNat_length, leInt_length, results, List.length_replicate,
    bare_length (enc := u16) (leNat_length 2), bare_length (enc := u32) (leNat_length 4)]
  omega

theorem StagedRecord.page_length : r.page.length = 512 := by
  simp [StagedRecord.page, StagedRecord.bytes_length fits, completionMarker]

/-- The page up to its completion marker. -/
theorem StagedRecord.page_take : r.page.take 508 = r.bytes ++ u32 (byteSum r.bytes) :=
  List.take_left' (by simp [StagedRecord.bytes_length fits])

theorem StagedRecord.page_take_length : (r.page.take 508).length = 508 := by
  rw [List.length_take, StagedRecord.page_length fits]; rfl

theorem StagedRecord.page_drop : r.page.drop 508 = completionMarker :=
  List.drop_left' (by simp [StagedRecord.bytes_length fits])

theorem StagedRecord.page_check : u32At r.page 504 = byteSum (r.page.take 504) := by
  have length := StagedRecord.bytes_length fits
  have small := byteSum_le r.bytes
  rw [StagedRecord.page, List.append_assoc, List.take_left' length, u32At_append_right length.le, length, Nat.sub_self,
    u32At_of_le (by omega)]

end

/-- The last bytes of a record, before its check, are 0. -/
theorem StagedRecord.zero_mem (r : StagedRecord) : (0 : Byte) ∈ r.bytes := by
  unfold StagedRecord.bytes
  exact List.mem_append_right _ (by simp)

theorem StagedRecord.judgePage_page {r : StagedRecord} (fits : r.results.length ≤ 8) : judgePage r.page = .valid :=
  judgePage_eq_valid.mpr ⟨⟨0, List.mem_append_left _ (List.mem_append_left _ r.zero_mem), by decide⟩,
    StagedRecord.page_drop fits, StagedRecord.page_check fits⟩

section
variable {f : Flash} {p q : Nat} {r : StagedRecord} (wf : CellsWf f.cells) (fits : r.results.length ≤ 8)
include wf fits

theorem Flash.commit_pageContents : (f.commit p r).pageContents p = r.page := by
  have read := readRun_writeRun wf (pageStart p) r.page 0
  rw [Nat.add_zero, StagedRecord.page_length fits] at read
  exact read.trans (List.append_nil _)

theorem Flash.beginProgram_pageContents :
    (f.beginProgram p r).pageContents p = r.page.take 508 ++ [0xFF, 0xFF, 0xFF, 0xFF] := by
  have short := StagedRecord.page_take_length fits
  have read := readRun_writeRun (wf.eraseRun (pageStart p) pageBytes) (pageStart p) (r.page.take 508) 4
  rw [short, readRun_eraseRun wf ⟨Nat.le_add_right .., by simp [pageBytes]⟩] at read
  exact read

theorem Flash.beginProgram_invalid : (f.beginProgram p r).condition p = .invalid := by
  have short := StagedRecord.page_take_length fits
  rw [Flash.condition, Flash.beginProgram_pageContents wf fits]
  refine judgePage_eq_invalid ⟨0, ?_, by decide⟩ ?_
  · rw [StagedRecord.page_take fits]
    exact List.mem_append_left _ (List.mem_append_left _ r.zero_mem)
  · rw [List.drop_left' short]
    decide

variable (other : q ≠ p)
include other

theorem Flash.commit_other : (f.commit p r).pageContents q = f.pageContents q := by
  refine readRun_congr (f.commit_wf wf p r) wf fun b low high => ?_
  refine readCell_writeRun_outside f.cells ?_
  rw [StagedRecord.page_length fits]
  simp only [pageStart, pageBytes] at *
  omega

theorem Flash.beginProgram_other : (f.beginProgram p r).pageContents q = f.pageContents q := by
  refine readRun_congr (f.beginProgram_wf wf p r) wf fun b low high => ?_
  have short := StagedRecord.page_take_length fits
  rw [Flash.beginProgram, readCell_writeRun_outside _ ?_, readCell_eraseRun_outside _ ?_]
  all_goals simp only [pageStart, pageBytes, short] at *; omega

end

/-! ### The pages that hold a record -/

theorem pagesWritten_mem {m : List Host.Cell} {c : Host.Cell} (mem : c ∈ m) : c.1 / pageBytes ∈ pagesWritten m := by
  induction m with
  | nil => cases mem
  | cons d m ih =>
    simp only [pagesWritten]
    split
    next head =>
      rcases List.mem_cons.mp mem with rfl | mem
      · exact List.mem_of_head? head
      · exact ih mem
    · rcases List.mem_cons.mp mem with rfl | mem
      · exact List.mem_cons_self ..
      · exact List.mem_cons_of_mem _ (ih mem)

theorem exists_of_pagesWritten {m : List Host.Cell} {q : Nat} (mem : q ∈ pagesWritten m) : ∃ c ∈ m, q = c.1 / pageBytes := by
  induction m with
  | nil => cases mem
  | cons d m ih =>
    have later (mem : q ∈ pagesWritten m) : ∃ c ∈ d :: m, q = c.1 / pageBytes :=
      (ih mem).imp fun c hc => ⟨List.mem_cons_of_mem _ hc.1, hc.2⟩
    simp only [pagesWritten] at mem
    split at mem
    · exact later mem
    · rcases List.mem_cons.mp mem with rfl | mem
      · exact ⟨d, List.mem_cons_self .., rfl⟩
      · exact later mem

theorem pagesWritten_rising {m : List Host.Cell} (rising : m.Pairwise fun c d => c.1 < d.1) :
    (pagesWritten m).Pairwise (· < ·) := by
  induction m with
  | nil => exact List.Pairwise.nil
  | cons c m ih =>
    obtain ⟨first, rest⟩ := List.pairwise_cons.mp rising
    have sorted := ih rest
    have from_c : ∀ q ∈ pagesWritten m, c.1 / pageBytes ≤ q := by
      intro q mem
      obtain ⟨d, mem_d, rfl⟩ := exists_of_pagesWritten mem
      exact Nat.div_le_div_right (first d mem_d).le
    simp only [pagesWritten]
    split
    · exact sorted
    next other =>
      refine List.pairwise_cons.mpr ⟨fun q mem => lt_of_le_of_ne (from_c q mem) ?_, sorted⟩
      rintro rfl
      cases written : pagesWritten m with
      | nil => rw [written] at mem; cases mem
      | cons x xs =>
        rw [written] at mem other from_c sorted
        have low := from_c x (List.mem_cons_self ..)
        rcases List.mem_cons.mp mem with same | mem
        · exact other (by rw [List.head?_cons, same])
        · exact absurd ((List.pairwise_cons.mp sorted).1 _ mem) low.not_gt

theorem Flash.validPages_complete {f : Flash} (wf : CellsWf f.cells) {p : Nat} (valid : f.condition p = .valid) :
    (p, u32At (f.pageContents p) 0) ∈ f.validPages := by
  obtain ⟨⟨b, mem, other⟩, -⟩ := judgePage_eq_valid.mp valid
  rw [Flash.pageContents, readRun_eq wf] at mem
  obtain ⟨i, below, rfl⟩ := List.mem_map.mp mem
  have written : ∃ c ∈ f.cells, c.1 = pageStart p + i := by
    by_contra absent
    push Not at absent
    exact other (readCell_not_mem absent)
  obtain ⟨c, mem_c, at_c⟩ := written
  have page : c.1 / pageBytes = p := by simp [pageStart, pageBytes] at *; omega
  refine List.mem_map.mpr ⟨p, List.mem_filter.mpr ⟨page ▸ pagesWritten_mem mem_c, by simpa using valid⟩, rfl⟩

theorem Flash.validPages_rising {f : Flash} (wf : CellsWf f.cells) : f.validPages.Pairwise fun x y => x.1 < y.1 :=
  List.pairwise_map.mpr ((pagesWritten_rising wf.1).filter _)

/-- The page an order prefers among those listed: at the front of the order, and the highest page number among equals. -/
def Preferred (better : Nat → Nat → Bool) (l : List (Nat × Nat)) (x : Nat × Nat) : Prop :=
  x ∈ l ∧ ∀ y ∈ l, better x.2 y.2 = true ∧ (better y.2 x.2 = true → y.1 ≤ x.1)

theorem preferredPage_append {better : Nat → Nat → Bool} {l : List (Nat × Nat)} (x : Nat × Nat) :
    (preferredPage better l = none → preferredPage better (l ++ [x]) = some x) ∧
      ∀ b, preferredPage better l = some b →
        preferredPage better (l ++ [x]) = if better x.2 b.2 then some x else some b := by
  simp only [preferredPage, List.foldl_append, List.foldl_cons, List.foldl_nil]
  exact ⟨fun e => by rw [e], fun b e => by rw [e]⟩

theorem preferredPage_spec {better : Nat → Nat → Bool} (total : ∀ a b, better a b = true ∨ better b a = true)
    (trans : ∀ a b c, better a b = true → better b c = true → better a c = true) (l : List (Nat × Nat))
    (rising : l.Pairwise fun x y => x.1 < y.1) :
    (l = [] ∧ preferredPage better l = none) ∨ ∃ x, preferredPage better l = some x ∧ Preferred better l x := by
  induction l using List.reverseRecOn with
  | nil => exact .inl ⟨rfl, rfl⟩
  | append_singleton l x ih =>
    obtain ⟨rising_l, -, above⟩ := List.pairwise_append.mp rising
    have last (y : Nat × Nat) (mem : y ∈ l) : y.1 < x.1 := above y mem x (List.mem_singleton_self x)
    have reflexive (a : Nat) : better a a = true := (total a a).elim id id
    refine .inr ?_
    rcases ih rising_l with ⟨rfl, nothing⟩ | ⟨b, found, mem, best⟩
    · exact ⟨x, (preferredPage_append x).1 nothing, by simp, fun y mem => by
        rw [List.mem_singleton.mp mem]; exact ⟨reflexive _, fun _ => le_rfl⟩⟩
    · rw [(preferredPage_append x).2 b found]
      by_cases wins : better x.2 b.2 = true
      · refine ⟨x, if_pos wins, by simp, fun y mem_y => ?_⟩
        rcases List.mem_append.mp mem_y with mem_y | mem_y
        · exact ⟨trans _ _ _ wins (best y mem_y).1, fun _ => (last y mem_y).le⟩
        · rw [List.mem_singleton.mp mem_y]; exact ⟨reflexive _, fun _ => le_rfl⟩
      · refine ⟨b, if_neg wins, List.mem_append_left _ mem, fun y mem_y => ?_⟩
        rcases List.mem_append.mp mem_y with mem_y | mem_y
        · exact best y mem_y
        · rw [List.mem_singleton.mp mem_y]
          exact ⟨(total _ _).resolve_left wins, fun better_x => absurd better_x wins⟩

/-- What the newest and the oldest record are, over the order of their numbers (R151, R152). -/
theorem Flash.preferred_page {f : Flash} (wf : CellsWf f.cells) {better : Nat → Nat → Bool}
    (total : ∀ a b, better a b = true ∨ better b a = true)
    (trans : ∀ a b c, better a b = true → better b c = true → better a c = true) :
    (preferredPage better f.validPages = none ↔ ∀ p, f.condition p ≠ .valid) ∧
      ∀ p n, preferredPage better f.validPages = some (p, n) → f.condition p = .valid ∧ n = u32At (f.pageContents p) 0 ∧
        ∀ q, f.condition q = .valid → better n (u32At (f.pageContents q) 0) = true ∧
          (u32At (f.pageContents q) 0 = n → q ≤ p) := by
  rcases preferredPage_spec total trans _ (Flash.validPages_rising wf) with ⟨empty, nothing⟩ | ⟨x, found, mem, best⟩
  · have no_page (p : Nat) : f.condition p ≠ .valid := fun valid => by
      have mem := Flash.validPages_complete wf valid
      rw [empty] at mem
      cases mem
    rw [nothing]
    exact ⟨iff_of_true rfl no_page, fun p n e => by cases e⟩
  · rw [found]
    refine ⟨iff_of_false (by simp) fun no_page => no_page x.1 (Flash.validPages_mem mem).1, ?_⟩
    rintro p n ⟨⟩
    obtain ⟨valid, number⟩ := Flash.validPages_mem mem
    refine ⟨valid, number, fun q valid_q => ?_⟩
    obtain ⟨first, tie⟩ := best _ (Flash.validPages_complete wf valid_q)
    refine ⟨first, fun same => tie ?_⟩
    rw [same]
    exact (total n n).elim id id

/-- Settles O57. -/
theorem pagesHoldRecords : Obligations.PagesHoldRecords := by
  refine ⟨?_, fun f p r wf fits => ⟨StagedRecord.page_length fits, Flash.beginProgram_invalid wf fits,
    Flash.beginProgram_pageContents wf fits, ?_, Flash.commit_pageContents wf fits, fun q other => ?_⟩, fun f wf => ?_⟩
  · rintro f p l rfl
    rw [← byteSum_eq]
    exact ⟨judgePage_eq_erased, judgePage_eq_valid⟩
  · rw [Flash.condition, Flash.commit_pageContents wf fits, StagedRecord.judgePage_page fits]
  · have begun := Flash.beginProgram_other wf fits other
    have committed := Flash.commit_other wf fits other
    exact ⟨begun, congrArg judgePage begun, committed, congrArg judgePage committed⟩
  · have highest := Flash.preferred_page (better := fun x b => decide (b ≤ x)) wf (by simp only [decide_eq_true_eq]; omega)
      (by simp only [decide_eq_true_eq]; omega)
    have lowest := Flash.preferred_page (better := fun x b => decide (x ≤ b)) wf (by simp only [decide_eq_true_eq]; omega)
      (by simp only [decide_eq_true_eq]; omega)
    simp only [decide_eq_true_eq] at highest lowest
    exact ⟨highest.1, lowest.1, highest.2, lowest.2⟩

end Sys2Proof.Machine
end

section
/-!
PROOFS. Chapters 1.4, 2.3, 3.5 and 6.4 to 6.6: the blocks that begin afresh, and the changes of mode (R13, R25, R42, R79, R81,
R82, R84, R87, R148).
-/

namespace Sys2Proof.Machine

variable {s : State} {p : Port} {tag : Byte}

/-! ### Blocks that begin afresh -/

theorem ThrmGroup.judge_eq (g : ThrmGroup) (temp : Int) (saturated : Bool) : g.judge temp saturated =
    if saturated = false ∧ ((temp - g.setPoint).natAbs : Int) ≤ g.window then .inside else .outside := by
  cases saturated <;> simp [ThrmGroup.judge]

/-- The monitor re-initialized over the frame in force (R25). -/
def State.levelAfresh (s : State) : LevelMonitor :=
  let l := { s.level with state := .unlevel, debounce := 0 }
  s.scan.latest.elim l (l.store s.model.groups.tilt)

theorem State.reinitLevel_of_unlevel (h : s.level.state = .unlevel) : s.reinitLevel = { s with level := s.levelAfresh } := by
  cases latest : s.scan.latest <;> simp only [State.reinitLevel, State.levelAfresh, h, latest, Option.elim]

theorem State.reinitLevel_of_level (h : s.level.state = .level) :
    s.reinitLevel = State.reportLevel { s with level := s.levelAfresh } .reinit := by
  cases latest : s.scan.latest <;> simp only [State.reinitLevel, State.levelAfresh, h, latest, Option.elim]

theorem State.levelAfresh_state (s : State) : s.levelAfresh.state = .unlevel := by
  cases latest : s.scan.latest <;> simp only [State.levelAfresh, latest, Option.elim, LevelMonitor.store]

/-- The tracker re-initialized over the frame in force (R42). -/
def State.thermalAfresh (s : State) : ThermalTracker :=
  let g := s.model.groups.thrm
  s.scan.latest.elim { s.thermal.clearBaseline with temp := none, saturated := false, window := .inside } fun f =>
    { s.thermal.clearBaseline with
      temp := some (g.convert f.temp), saturated := f.satT, window := g.judge (g.convert f.temp) f.satT }

theorem State.reinitThermal_eq (s : State) : s.reinitThermal =
    if s.thermalAfresh.window = s.thermal.window then { s with thermal := s.thermalAfresh }
    else State.postBoth { s with thermal := s.thermalAfresh }
      (.thrm s.thermalAfresh.window .reinit s.thermalAfresh.temp none) := by
  cases latest : s.scan.latest <;> simp only [State.reinitThermal, State.thermalAfresh, latest, Option.elim]

/-- Settles O39. -/
theorem blocksBeginAfresh : Obligations.BlocksBeginAfresh := by
  refine ⟨fun s l no_frame frame => ?_, fun s t no_frame frame => ?_, fun s => rfl⟩
  · have afresh : s.levelAfresh = l := by
      cases latest : s.scan.latest with
      | none => rw [no_frame latest, State.levelAfresh, latest]; rfl
      | some f => rw [frame f _ _ _ latest rfl rfl rfl, State.levelAfresh, latest]; rfl
    refine ⟨fun unlevel => ?_, fun level => ?_⟩
    · rw [State.reinitLevel_of_unlevel unlevel, afresh]
    · have state : l.state = .unlevel := afresh ▸ s.levelAfresh_state
      rw [State.reinitLevel_of_level level, afresh, State.reportLevel, state]
  · have afresh : s.thermalAfresh = t := by
      cases latest : s.scan.latest with
      | none => rw [no_frame latest, State.thermalAfresh, latest]; rfl
      | some f =>
        rw [frame f _ _ latest rfl rfl, State.thermalAfresh, latest, Option.elim, ThrmGroup.judge_eq]
        rfl
    rw [State.reinitThermal_eq, afresh]

/-! ### SETU and MDST -/

theorem State.readingPending_iff : s.readingPending = true ↔ s.engine.queue ≠ [] ∨ s.engine.reading ≠ none := by
  simp [State.readingPending, Option.isSome_iff_ne_none]

theorem setuReply_of_setup (setup : s.model.mode = .setup) : setuReply [] s = s.refuse .same := if_pos setup

section
variable (survey : s.model.mode = .survey)
include survey

theorem setuReply_of_survey : setuReply [] s =
    if s.readingPending then s.busy .reading else if s.model.storeOutstanding then s.busy .store
    else ⟨.okay, [], s.enterSetup⟩ := if_neg (by simp [survey])

theorem setuReply_of_reading (pending : s.engine.queue ≠ [] ∨ s.engine.reading ≠ none) :
    setuReply [] s = s.busy .reading := by
  rw [setuReply_of_survey survey, if_pos (State.readingPending_iff.mpr pending)]

theorem setuReply_of_idle (queue : s.engine.queue = []) (reading : s.engine.reading = none) :
    setuReply [] s = if s.model.storeOutstanding then s.busy .store else ⟨.okay, [], s.enterSetup⟩ := by
  rw [setuReply_of_survey survey, if_neg (State.readingPending_iff.not.mpr (by simp [queue, reading]))]

theorem mdstReply_of_survey : mdstReply [] s =
    if s.model.storeOutstanding then s.busy .store
    else ⟨.okay, u16 s.model.generation, { s with model := { s.model with storeOutstanding := true } }⟩ :=
  if_neg (by simp [survey])

end

theorem mdstReply_of_setup (setup : s.model.mode = .setup) : mdstReply [] s = s.refuse .mode := if_pos setup

/-! ### The validation of the model -/

theorem firstBadSlot_eq_some {slots : List CaliSlot} {i : Nat} {c : CaliSlot} (at_i : slots[i]? = some c)
    (on : c.enabled = true) (bad : c.stop < c.start)
    (good : ∀ (j : Nat) (d : CaliSlot), j < i → slots[j]? = some d → d.enabled = true → d.start ≤ d.stop) (k : Nat) :
    firstBadSlot k slots = some (k + i) := by
  induction slots generalizing i k with
  | nil => cases at_i
  | cons x xs ih =>
    cases i with
    | zero => cases at_i; rw [firstBadSlot, if_pos (by simp [on, bad])]; rfl
    | succ i =>
      have first : ¬(x.enabled && decide (x.stop < x.start)) = true := by
        simp only [Bool.and_eq_true, decide_eq_true_eq, not_and, not_lt]
        exact good 0 x (Nat.succ_pos i) rfl
      rw [firstBadSlot, if_neg first,
        ih (i := i) at_i (fun j d lt at_j on_d => good (j + 1) d (Nat.succ_lt_succ lt) at_j on_d) (k + 1)]
      congr 1
      omega

theorem firstBadSlot_eq_none {slots : List CaliSlot} (good : ∀ c ∈ slots, c.enabled = true → c.start ≤ c.stop) (k : Nat) :
    firstBadSlot k slots = none := by
  induction slots generalizing k with
  | nil => rfl
  | cons x xs ih =>
    obtain ⟨first, rest⟩ := List.forall_mem_cons.mp good
    rw [firstBadSlot, if_neg (by simpa using first), ih rest]

section
variable {g : Groups}

theorem Groups.validate_of_no_slot (off : ∀ c ∈ g.cali.toList, c.enabled = false) :
    g.validate = some ⟨1, (GroupId.cali 0).name, none⟩ :=
  if_neg (by simpa only [List.any_eq_true, not_exists, not_and, Bool.not_eq_true] using off)

theorem Groups.validate_of_slot {c : CaliSlot} (mem : c ∈ g.cali.toList) (on : c.enabled = true) :
    g.cali.toList.any (·.enabled) = true := List.any_eq_true.mpr ⟨c, mem, on⟩

theorem Groups.validate_of_bad_slot {i : Nat} {c : CaliSlot} (at_i : g.cali.toList[i]? = some c) (on : c.enabled = true)
    (bad : c.stop < c.start)
    (good : ∀ (j : Nat) (d : CaliSlot), j < i → g.cali.toList[j]? = some d → d.enabled = true → d.start ≤ d.stop) :
    g.validate = some ⟨2, (GroupId.cali 0).name, some i⟩ := by
  have found := firstBadSlot_eq_some at_i on bad good 0
  rw [Nat.zero_add] at found
  simp only [Groups.validate, if_pos (Groups.validate_of_slot (List.mem_of_getElem? at_i) on), found]

/-- Where every slot passes, the band and the level bounds are left to check (R81). -/
theorem Groups.validate_of_slots (some_on : ∃ c ∈ g.cali.toList, c.enabled = true)
    (good : ∀ c ∈ g.cali.toList, c.enabled = true → c.start ≤ c.stop) : g.validate =
      if g.gate.rawLow < g.gate.rawHigh then
        if g.tilt.hysteresis < g.tilt.threshold then none else some ⟨4, GroupId.tilt.name, none⟩
      else some ⟨3, GroupId.gate.name, none⟩ := by
  obtain ⟨c, mem, on⟩ := some_on
  simp only [Groups.validate, if_pos (Groups.validate_of_slot mem on), firstBadSlot_eq_none good]

end

/-! ### SURV -/

theorem survReply_of_survey (survey : s.model.mode = .survey) : survReply [] s = s.refuse .same := if_pos survey

section
variable (setup : s.model.mode = .setup)
include setup

theorem survReply_of_pending (pending : s.cal.result.state = .pending) : survReply [] s = s.busy .calibration := by
  rw [survReply, State.sized_length s List.length_nil, if_neg (by simp [setup]), if_pos pending]

variable (idle : s.cal.result.state ≠ .pending)
include idle

theorem survReply_of_bad {b : BadModel} (bad : s.model.groups.validate = some b) :
    survReply [] s = ⟨.badm, u8 b.order ++ b.group ++ opt u8 1 b.index, s⟩ := by
  rw [survReply, State.sized_length s List.length_nil, if_neg (by simp [setup]), if_neg idle]
  simp only [bad]

theorem survReply_of_good (good : s.model.groups.validate = none) :
    survReply [] s = ⟨.okay, u16 ((s.model.generation + 1) % 65536), s.enterSurvey⟩ := by
  rw [survReply, State.sized_length s List.length_nil, if_neg (by simp [setup]), if_neg idle]
  simp only [good, State.enterSurvey_model]

end

theorem State.releaseArchive_of_full (full : s.archive.state = .full) (wrap : s.model.groups.wrap = true) :
    s.releaseArchive = State.postBoth { s with archive := { s.archive with state := .ready, writePage := 0 } }
      (.arch .released .ready none none 0 s.occupations.archiveQueue.length) := if_pos ⟨full, wrap⟩

theorem State.releaseArchive_of_other (other : ¬(s.archive.state = .full ∧ s.model.groups.wrap = true)) :
    s.releaseArchive = s := if_neg other

/-- Settles O40. -/
theorem modesChange : Obligations.ModesChange := by
  intro s p tag takes
  refine ⟨fun setup => ⟨?_, ?_⟩, fun survey => ⟨fun pending => ?_, fun queue reading store => ?_,
    fun queue reading no_store => ?_, ?_, fun store => ?_, fun no_store => ?_⟩, fun setup pending => ?_, ?_⟩
  · exact exec_replies (c := .setu p tag []) rfl takes (setuReply_of_setup setup)
  · exact exec_replies (c := .mdst p tag []) rfl takes (mdstReply_of_setup setup)
  · exact exec_replies (c := .setu p tag []) rfl takes (setuReply_of_reading survey pending)
  · have rule := setuReply_of_idle survey queue reading
    rw [if_pos store] at rule
    exact exec_replies (c := .setu p tag []) rfl takes rule
  · have rule := setuReply_of_idle survey queue reading
    rw [if_neg (by simp [no_store])] at rule
    exact exec_replies (c := .setu p tag []) rfl takes rule
  · exact exec_replies (c := .surv p tag []) rfl takes (survReply_of_survey survey)
  · have rule := mdstReply_of_survey survey
    rw [if_pos store] at rule
    exact exec_replies (c := .mdst p tag []) rfl takes rule
  · have rule := mdstReply_of_survey survey
    rw [if_neg (by simp [no_store])] at rule
    exact exec_replies (c := .mdst p tag []) rfl takes rule
  · exact exec_replies (c := .surv p tag []) rfl takes (survReply_of_pending setup pending)
  rintro setup idle g rfl
  refine ⟨fun off => ?_, fun i c at_i on bad good => ?_, fun some_on good => ?_⟩
  · exact exec_replies (c := .surv p tag []) rfl takes (survReply_of_bad setup idle (Groups.validate_of_no_slot off))
  · rw [← u8_eq]
    exact exec_replies (c := .surv p tag []) rfl takes
      (survReply_of_bad setup idle (Groups.validate_of_bad_slot at_i on bad good))
  have checks := Groups.validate_of_slots some_on good
  refine ⟨fun empty => ?_, fun band wide => ?_, fun band under gen u v w hgen hu hv kept released => ?_⟩
  · rw [if_neg empty.not_gt] at checks
    exact exec_replies (c := .surv p tag []) rfl takes (survReply_of_bad setup idle checks)
  · rw [if_pos band, if_neg wide.not_gt] at checks
    exact exec_replies (c := .surv p tag []) rfl takes (survReply_of_bad setup idle checks)
  · rw [if_pos band, if_pos under] at checks
    have same : v.archive = s.archive ∧ v.model.groups = s.model.groups ∧ v.occupations = s.occupations := by
      subst hv hu; simp
    obtain ⟨archive, groups, occupations⟩ := same
    have releases : v.releaseArchive = w := by
      by_cases full : s.archive.state = .full ∧ s.model.groups.wrap = true
      · rw [released full.1 full.2, State.releaseArchive_of_full (archive ▸ full.1) (groups ▸ full.2), archive, occupations]
      · rw [kept full, State.releaseArchive_of_other (by rw [archive, groups]; exact full)]
    have enters : s.enterSurvey = State.postBoth { w with model := { w.model with mode := .survey } }
        (.mode .surveyEntered .survey gen) := by
      subst releases hv hu hgen
      rfl
    have rule := survReply_of_good setup idle checks
    rw [enters, ← hgen] at rule
    exact exec_replies (c := .surv p tag []) rfl takes rule

end Sys2Proof.Machine
end

section
/-!
PROOFS. Chapter 8: the requests that change the Station Table and the Occupation Table (R120 to R122, R125 to R132).
-/

namespace Sys2Proof.Machine

variable {s : State} {p : Port} {tag : Byte} {l : List Byte} {n : Nat}

theorem State.permits_iff : s.permits p n = true ↔
    (s.model.groups.window p).writeProtect = false ∧ (s.model.groups.window p).first ≤ n ∧
      n ≤ (s.model.groups.window p).last := Window.holds_iff

theorem stationNumber_eq_false (h : ¬(1 ≤ n ∧ n ≤ 65534)) : stationNumber n = false :=
  Bool.eq_false_iff.mpr (stationNumber_iff.not.mpr h)

/-! ### STDF -/

section
variable (length : l.length = 9) (at_n : n = u16At l 0)
include length at_n

theorem stdfReply_of_args (bad : ¬(1 ≤ n ∧ n ≤ 65534) ∨ ¬Within (-180000000) 180000000 (s32At l 2) ∨ 1 < u8At l 6) :
    stdfReply p l s = s.refuse .args := by
  subst at_n
  rw [stdfReply, State.sized_length s length]
  by_cases number : 1 ≤ u16At l 0 ∧ u16At l 0 ≤ 65534
  · by_cases range : Within (-180000000) 180000000 (s32At l 2)
    · have mark : markAt l 6 = none := markAt_eq_none.mpr (by tauto)
      simp only [mark, ite_self]
    · have outside : s32At l 2 < -180000000 ∨ 180000000 < s32At l 2 := by unfold Within at range; omega
      simp only [if_pos outside, ite_self]
  · simp only [stationNumber_eq_false number, Bool.not_false, if_true]

variable (number : 1 ≤ n ∧ n ≤ 65534) (range : Within (-180000000) 180000000 (s32At l 2)) (mark : u8At l 6 ≤ 1)
include number range mark

theorem stdfReply_of_denied (denied : s.permits p n = false) : stdfReply p l s = s.refuse .deny := by
  subst at_n
  have inside : ¬(s32At l 2 < -180000000 ∨ 180000000 < s32At l 2) := by unfold Within at range; omega
  rw [stdfReply, State.sized_length s length]
  simp only [stationNumber_iff.mpr number, if_neg inside, markAt_of_le mark, denied, Bool.not_true, Bool.not_false,
    Bool.false_eq_true, if_false, if_true]

variable (permitted : s.permits p n = true) {factor : Option Nat} {st : Status}
  (at_factor : factor = if u8At l 6 = 1 then some (min 32767 (u16At l 7)) else none)
  (at_st : st = if u8At l 6 = 1 ∧ 32767 < u16At l 7 then .clmp else .okay)
include permitted at_factor at_st

theorem stdfReply_of_held {e : Station} (held : s.station n = some e) :
    stdfReply p l s = if 0 < s.naming n then ⟨.pend, u8 (s.naming n), s⟩
      else ⟨st, u8 1 ++ Station.bytes { e with longitude := s32At l 2, factor := factor },
        s.withStations (updateStation n (fun _ => { e with longitude := s32At l 2, factor := factor }) s.stations)⟩ := by
  subst at_n at_factor at_st
  have inside : ¬(s32At l 2 < -180000000 ∨ 180000000 < s32At l 2) := by unfold Within at range; omega
  have clamped : clampNat 0 32767 (u16At l 7) = min 32767 (u16At l 7) := by rw [clampNat_eq (by omega), Nat.zero_max]
  rw [stdfReply, State.sized_length s length]
  simp only [stationNumber_iff.mpr number, if_neg inside, markAt_of_le mark, permitted, held, clamped, Bool.not_true,
    Bool.false_eq_true, if_false, Bool.and_eq_true, decide_eq_true_eq]

theorem stdfReply_of_absent (absent : s.station n = none) :
    stdfReply p l s = if s.stations.length = 120 then s.refuse .full
      else ⟨st, u8 0 ++ Station.bytes ⟨n, s32At l 2, factor, 0, none⟩,
        s.withStations (s.stations ++ [⟨n, s32At l 2, factor, 0, none⟩])⟩ := by
  subst at_n at_factor at_st
  have inside : ¬(s32At l 2 < -180000000 ∨ 180000000 < s32At l 2) := by unfold Within at range; omega
  have clamped : clampNat 0 32767 (u16At l 7) = min 32767 (u16At l 7) := by rw [clampNat_eq (by omega), Nat.zero_max]
  rw [stdfReply, State.sized_length s length]
  simp only [stationNumber_iff.mpr number, if_neg inside, markAt_of_le mark, permitted, absent, clamped, Bool.not_true,
    Bool.false_eq_true, if_false, Bool.and_eq_true, decide_eq_true_eq]

end

/-! ### STRM -/

section
variable (length : l.length = 2) (at_n : n = u16At l 0)
include length at_n

theorem strmReply_of_no_number (outside : ¬(1 ≤ n ∧ n ≤ 65534)) : strmReply p l s = s.refuse .args := by
  subst at_n
  rw [strmReply, State.sized_length s length]
  simp only [stationNumber_eq_false outside, Bool.not_false, if_true]

variable (number : 1 ≤ n ∧ n ≤ 65534)
include number

theorem strmReply_of_denied (denied : s.permits p n = false) : strmReply p l s = s.refuse .deny := by
  subst at_n
  rw [strmReply, State.sized_length s length]
  simp only [stationNumber_iff.mpr number, denied, Bool.not_true, Bool.not_false, Bool.false_eq_true, if_false, if_true]

variable (permitted : s.permits p n = true)
include permitted

theorem strmReply_of_absent (absent : s.station n = none) : strmReply p l s = s.refuse .none := by
  subst at_n
  rw [strmReply, State.sized_length s length]
  simp only [stationNumber_iff.mpr number, permitted, absent, Bool.not_true, Bool.false_eq_true, if_false]

theorem strmReply_of_held {e : Station} (held : s.station n = some e) :
    strmReply p l s = if 0 < s.naming n then ⟨.pend, u8 (s.naming n), s⟩
      else ⟨.okay, e.bytes, s.withStations (s.stations.filter fun t => decide (t.number ≠ n))⟩ := by
  subst at_n
  rw [strmReply, State.sized_length s length]
  simp only [stationNumber_iff.mpr number, permitted, held, Bool.not_true, Bool.false_eq_true, if_false]

end

/-- Settles O52. -/
theorem stationRequests : Obligations.StationRequests := by
  rintro s p tag w takes rfl
  refine ⟨?_, fun l n length at_n => ⟨fun outside => ?_, fun one top => ?_⟩⟩
  · rintro l n longitude factor st length at_n rfl at_factor at_st
    refine ⟨fun bad => ?_, fun one top range mark => ?_⟩
    · exact exec_replies (c := .stdf p tag l) rfl takes (stdfReply_of_args length at_n bad)
    refine ⟨fun outside => ?_, fun unprotected low high => ?_⟩
    · exact exec_replies (c := .stdf p tag l) rfl takes
        (stdfReply_of_denied length at_n ⟨one, top⟩ range mark (Bool.eq_false_iff.mpr (State.permits_iff.not.mpr outside)))
    have permitted := State.permits_iff.mpr ⟨unprotected, low, high⟩
    refine ⟨?_, fun absent => ?_⟩
    · rintro e naming held rfl
      have rule := stdfReply_of_held length at_n ⟨one, top⟩ range mark permitted at_factor at_st held
      refine ⟨fun named => ?_, ?_⟩
      · rw [if_pos (by exact named), u8_eq] at rule
        exact exec_replies (c := .stdf p tag l) rfl takes rule
      · rintro unnamed new rfl
        rw [if_neg (by exact unnamed.not_gt)] at rule
        exact exec_replies (c := .stdf p tag l) rfl takes rule
    · have rule := stdfReply_of_absent length at_n ⟨one, top⟩ range mark permitted at_factor at_st absent
      refine ⟨fun full => ?_, ?_⟩
      · rw [if_pos full] at rule
        exact exec_replies (c := .stdf p tag l) rfl takes rule
      · rintro room new rfl
        rw [if_neg room] at rule
        exact exec_replies (c := .stdf p tag l) rfl takes rule
  · exact exec_replies (c := .strm p tag l) rfl takes (strmReply_of_no_number length at_n outside)
  · refine ⟨fun outside => ?_, fun unprotected low high => ?_⟩
    · exact exec_replies (c := .strm p tag l) rfl takes
        (strmReply_of_denied length at_n ⟨one, top⟩ (Bool.eq_false_iff.mpr (State.permits_iff.not.mpr outside)))
    have permitted := State.permits_iff.mpr ⟨unprotected, low, high⟩
    refine ⟨fun absent => ?_, ?_⟩
    · exact exec_replies (c := .strm p tag l) rfl takes (strmReply_of_absent length at_n ⟨one, top⟩ permitted absent)
    · rintro e naming held rfl
      have rule := strmReply_of_held length at_n ⟨one, top⟩ permitted held
      refine ⟨fun named => ?_, fun unnamed => ?_⟩
      · rw [if_pos (by exact named), u8_eq] at rule
        exact exec_replies (c := .strm p tag l) rfl takes rule
      · rw [if_neg (by exact unnamed.not_gt)] at rule
        exact exec_replies (c := .strm p tag l) rfl takes rule

/-! ### OCOP -/

section
variable (length : l.length = 2) (at_n : n = u16At l 0)
include length at_n

theorem ocopReply_of_no_number (outside : ¬(1 ≤ n ∧ n ≤ 65534)) : ocopReply p l s = s.refuse .args := by
  subst at_n
  rw [ocopReply, State.sized_length s length]
  simp only [stationNumber_eq_false outside, Bool.not_false, if_true]

variable (number : 1 ≤ n ∧ n ≤ 65534)
include number

theorem ocopReply_of_denied (denied : s.permits p n = false) : ocopReply p l s = s.refuse .deny := by
  subst at_n
  rw [ocopReply, State.sized_length s length]
  simp only [stationNumber_iff.mpr number, denied, Bool.not_true, Bool.not_false, Bool.false_eq_true, if_false, if_true]

variable (permitted : s.permits p n = true)
include permitted

theorem ocopReply_of_absent (absent : s.station n = none) : ocopReply p l s = s.refuse .none := by
  subst at_n
  rw [ocopReply, State.sized_length s length]
  simp only [stationNumber_iff.mpr number, permitted, absent, Bool.not_true, Bool.false_eq_true, if_false]

variable {e : Station} (held : s.station n = some e)
include held

theorem ocopReply_of_open {o : Nat} (opened : e.openOccupation = some o) : ocopReply p l s = ⟨.held, u32 o, s⟩ := by
  subst at_n
  rw [ocopReply, State.sized_length s length]
  simp only [stationNumber_iff.mpr number, permitted, held, opened, Bool.not_true, Bool.false_eq_true, if_false]

theorem ocopReply_of_closed (closed : e.openOccupation = none) :
    ocopReply p l s = if s.occupations.entries.length = 12 then s.refuse .full
      else ⟨.okay, u32 s.occupations.counter ++ opt u32 4 s.clock.openStamp ++ u8 (heldSucc e.count),
        { s with
          stations := updateStation n
            (fun t => { t with count := heldSucc e.count, openOccupation := some s.occupations.counter }) s.stations
          occupations := s.occupations.openAt n s.clock.openStamp }⟩ := by
  subst at_n
  rw [ocopReply, State.sized_length s length]
  simp only [stationNumber_iff.mpr number, permitted, held, closed, Bool.not_true, Bool.false_eq_true, if_false]

end

theorem Clock.openStamp_eq {c : Clock} {stamp : Option Nat} (set : c.time = .set → stamp = some c.seconds)
    (unset : c.time = .unset → stamp = none) : c.openStamp = stamp := by
  cases time : c.time with
  | set => rw [set time]; simp only [Clock.openStamp, time]
  | unset => rw [unset time]; simp only [Clock.openStamp, time]

/-! ### OCCL and OCDS -/

theorem releaseOpen_eq (o : Occupation) (stations : List Station) : releaseOpen o stations =
    stations.map fun t => if t.number = o.station ∧ t.openOccupation = some o.number then
      { t with openOccupation := none } else t := by
  refine List.map_congr_left fun t _ => ?_
  rw [ite_and]

section
variable (length : l.length = 4) (at_n : n = u32At l 0)
include length at_n

theorem occlReply_of_absent (absent : s.occupation n = none) : occlReply p l s = s.refuse .none := by
  subst at_n
  rw [occlReply, State.sized_length s length]
  simp only [absent]

theorem ocdsReply_of_absent (absent : s.occupation n = none) : ocdsReply p l s = s.refuse .none := by
  subst at_n
  rw [ocdsReply, State.sized_length s length]
  simp only [absent]

variable {o : Occupation} (held : s.occupation n = some o)
include held

theorem occlReply_of_denied (denied : s.permits p o.station = false) : occlReply p l s = s.refuse .deny := by
  subst at_n
  rw [occlReply, State.sized_length s length]
  simp only [held, denied, Bool.not_false, if_true]

theorem ocdsReply_of_denied (denied : s.permits p o.station = false) : ocdsReply p l s = s.refuse .deny := by
  subst at_n
  rw [ocdsReply, State.sized_length s length]
  simp only [held, denied, Bool.not_false, if_true]

variable (permitted : s.permits p o.station = true)
include permitted

theorem occlReply_of_shut (shut : o.state ≠ .isOpen) : occlReply p l s = s.refuse .shut := by
  subst at_n
  rw [occlReply, State.sized_length s length]
  simp only [held, permitted, Bool.not_true, Bool.false_eq_true, if_false, if_pos shut]

theorem ocdsReply_of_staged (staged : o.state = .staged) : ocdsReply p l s = s.busy .staged := by
  subst at_n
  rw [ocdsReply, State.sized_length s length]
  simp only [held, permitted, Bool.not_true, Bool.false_eq_true, if_false, staged]

theorem ocdsReply_of_closed (closed : o.state = .closed) : ocdsReply p l s = s.discardOccupation o := by
  subst at_n
  rw [ocdsReply, State.sized_length s length]
  simp only [held, permitted, Bool.not_true, Bool.false_eq_true, if_false, closed]

variable (opened : o.state = .isOpen)
include opened

theorem occlReply_of_open : occlReply p l s =
    if 0 < s.engine.pendingAt n then ⟨.pend, u8 (s.engine.pendingAt n), s⟩ else s.closeOccupation o := by
  rw [← (State.occupation_eq_some held).2]
  subst at_n
  rw [occlReply, State.sized_length s length]
  simp only [held, permitted, Bool.not_true, Bool.false_eq_true, if_false, opened, ne_eq, not_true_eq_false]

theorem ocdsReply_of_open : ocdsReply p l s =
    if 0 < s.engine.pendingAt n then ⟨.pend, u8 (s.engine.pendingAt n), s⟩ else s.discardOccupation o := by
  rw [← (State.occupation_eq_some held).2]
  subst at_n
  rw [ocdsReply, State.sized_length s length]
  simp only [held, permitted, Bool.not_true, Bool.false_eq_true, if_false, opened]

end

section
variable {o : Occupation}

theorem State.closeOccupation_of_empty (empty : o.results = []) : s.closeOccupation o =
    ⟨.okay, u8 0, { s with stations := releaseOpen o s.stations, occupations := s.occupations.free o.number }⟩ :=
  if_pos (by simp [empty])

theorem State.closeOccupation_of_results (results : o.results ≠ []) : s.closeOccupation o =
    ⟨.okay, u8 1 ++ u32 s.clock.seconds ++ u8 o.results.length ++ u8 (s.occupations.archiveQueue.length + 1),
      { s with stations := releaseOpen o s.stations, occupations := s.occupations.closeAt o.number s.clock.seconds }⟩ := by
  rw [State.closeOccupation, if_neg (by simpa using results)]
  simp only [OccupationTable.closeAt, List.length_append, List.length_singleton]

theorem State.discardOccupation_of_closed (closed : o.state = .closed) : s.discardOccupation o =
    ⟨.okay, u8 1 ++ u8 o.results.length, { s with occupations := s.occupations.free o.number }⟩ := by
  simp only [State.discardOccupation, closed, reduceCtorEq, if_false]
  rfl

theorem State.discardOccupation_of_open (opened : o.state = .isOpen) : s.discardOccupation o =
    ⟨.okay, u8 0 ++ u8 o.results.length,
      { s with stations := releaseOpen o s.stations, occupations := s.occupations.free o.number }⟩ := by
  simp only [State.discardOccupation, opened, if_true]
  rfl

end

/-- Settles O53. -/
theorem occupationRequests : Obligations.OccupationRequests := by
  rintro s p tag w takes rfl
  refine ⟨fun l n length at_n => ⟨fun outside => ?_, fun one top => ⟨fun outside => ?_, fun unprotected low high => ?_⟩⟩,
    fun l n length at_n => ⟨fun absent => ⟨?_, ?_⟩, fun o held => ⟨fun outside => ?_, ?_⟩⟩⟩
  · exact exec_replies (c := .ocop p tag l) rfl takes (ocopReply_of_no_number length at_n outside)
  · exact exec_replies (c := .ocop p tag l) rfl takes
      (ocopReply_of_denied length at_n ⟨one, top⟩ (Bool.eq_false_iff.mpr (State.permits_iff.not.mpr outside)))
  · have permitted := State.permits_iff.mpr ⟨unprotected, low, high⟩
    refine ⟨fun absent => ?_, fun e held => ⟨fun o opened => ?_, fun closed => ?_⟩⟩
    · exact exec_replies (c := .ocop p tag l) rfl takes (ocopReply_of_absent length at_n ⟨one, top⟩ permitted absent)
    · exact exec_replies (c := .ocop p tag l) rfl takes (ocopReply_of_open length at_n ⟨one, top⟩ permitted held opened)
    have rule := ocopReply_of_closed length at_n ⟨one, top⟩ permitted held closed
    refine ⟨fun full => ?_, ?_⟩
    · rw [if_pos full] at rule
      exact exec_replies (c := .ocop p tag l) rfl takes rule
    · rintro room number count stamp rfl rfl set unset after entries held' next hafter rfl rfl hnext
      have wraps : after = counterAfter := funext hafter
      subst wraps
      refine ⟨fun short => ?_, ?_⟩
      · rw [hnext, counterAfter_eq]
        exact cycle_firstFree (by simp; omega)
      · rw [if_neg room, Clock.openStamp_eq set unset, u8_eq, heldSucc_eq, OccupationTable.openAt] at rule
        rw [List.length_map] at hnext
        subst hnext
        exact exec_replies (c := .ocop p tag l) rfl takes rule
  · exact exec_replies (c := .occl p tag l) rfl takes (occlReply_of_absent length at_n absent)
  · exact exec_replies (c := .ocds p tag l) rfl takes (ocdsReply_of_absent length at_n absent)
  · have denied := Bool.eq_false_iff.mpr (State.permits_iff.not.mpr outside)
    exact ⟨exec_replies (c := .occl p tag l) rfl takes (occlReply_of_denied length at_n held denied),
      exec_replies (c := .ocds p tag l) rfl takes (ocdsReply_of_denied length at_n held denied)⟩
  rintro unprotected low high left freed hleft rfl
  have permitted := State.permits_iff.mpr ⟨unprotected, low, high⟩
  obtain ⟨-, rfl⟩ := State.occupation_eq_some held
  rw [← releaseOpen_eq] at hleft
  subst hleft
  refine ⟨fun shut => ?_, fun staged => ?_, fun closed => ?_, fun opened pending => ?_, fun opened none_pending => ?_⟩
  · exact exec_replies (c := .occl p tag l) rfl takes (occlReply_of_shut length at_n held permitted shut)
  · exact exec_replies (c := .ocds p tag l) rfl takes (ocdsReply_of_staged length at_n held permitted staged)
  · have rule := ocdsReply_of_closed length at_n held permitted closed
    rw [State.discardOccupation_of_closed closed, u8_eq o.results.length] at rule
    exact exec_replies (c := .ocds p tag l) rfl takes rule
  · have closes := occlReply_of_open length at_n held permitted opened
    have discards := ocdsReply_of_open length at_n held permitted opened
    rw [if_pos pending, u8_eq] at closes discards
    exact ⟨exec_replies (c := .occl p tag l) rfl takes closes, exec_replies (c := .ocds p tag l) rfl takes discards⟩
  · have closes := occlReply_of_open length at_n held permitted opened
    have discards := ocdsReply_of_open length at_n held permitted opened
    rw [if_neg none_pending.not_gt] at closes discards
    refine ⟨?_, fun empty => ?_, fun results => ?_⟩
    · rw [State.discardOccupation_of_open opened, u8_eq o.results.length] at discards
      exact exec_replies (c := .ocds p tag l) rfl takes discards
    · rw [State.closeOccupation_of_empty empty] at closes
      exact exec_replies (c := .occl p tag l) rfl takes closes
    · rw [State.closeOccupation_of_results results, u8_eq o.results.length, u8_eq (s.occupations.archiveQueue.length + 1)] at closes
      exact exec_replies (c := .occl p tag l) rfl takes closes

end Sys2Proof.Machine
end

section
/-!
PROOFS. Chapter 9: staging, the flash engine's stores and page programs, ARRT, and the read cursors (R88, R140 to R149, R152,
R153).
-/

namespace Sys2Proof.Machine

variable {s : State} {p : Port} {tag : Byte} {l : List Byte}

/-! ### The write page -/

/-- The page after the write page (R147). -/
def Archive.nextPage (a : Archive) : Nat := if a.writePage < 4095 then a.writePage + 1 else 0

/-- The state of the archive once its write page has advanced (R147). -/
def Archive.nextState (a : Archive) (wrap : Bool) : ArchiveState := if a.fills wrap then .full else a.state

theorem Archive.fills_iff {a : Archive} {wrap : Bool} : a.fills wrap = true ↔ 4095 ≤ a.writePage ∧ wrap = false := by
  simp [Archive.fills]

theorem Archive.advance_eq (a : Archive) (wrap : Bool) :
    a.advance wrap = { a with writePage := a.nextPage, state := a.nextState wrap } := by
  unfold Archive.advance Archive.nextPage Archive.nextState
  by_cases inner : a.writePage < 4095
  · simp [inner, Archive.fills]
  · cases wrap <;> simp [inner, Archive.fills]

/-! ### Staging -/

theorem execStaging_of_none (h : s.archive.state = .mounting ∨ s.occupations.archiveQueue = [] ∨
    (s.archive.buffer0 ≠ .free ∧ s.archive.buffer1 ≠ .free)) : execStaging s = .next s := by
  unfold execStaging
  split
  next n rest b queue free =>
    rcases h with mounting | empty | ⟨used0, used1⟩
    · exact if_pos mounting
    · exact absurd (queue.symm.trans empty) (by simp)
    · exact absurd free (by simp [Archive.freeBuffer, used0, used1])
  · rfl

section
variable {n closed : Nat} {rest : List Nat} {o : Occupation} {t : Station} {b : BufferId}

/-- A staging into a FREE buffer (R140, R141). -/
theorem execStaging_of_head (queue : s.occupations.archiveQueue = n :: rest) (mounted : s.archive.state ≠ .mounting)
    (held : s.occupation n = some o) (station : s.station o.station = some t) (time : o.closeTime = some closed)
    (free : s.archive.freeBuffer = some b) : execStaging s = .next
      { s with
        archive := { s.archive.setBuffer b (.loaded (stagedRecord o t closed)) with loadOrder := s.archive.loadOrder ++ [b] }
        occupations := { s.occupations with
          archiveQueue := rest
          entries := s.occupations.entries.map fun x => if x.number = n then { x with state := .staged } else x } } := by
  have taken : s.occupations.stageHead n = { s.occupations with
      archiveQueue := rest
      entries := s.occupations.entries.map fun x => if x.number = n then { x with state := .staged } else x } := by
    rw [OccupationTable.stageHead, queue, List.tail_cons]
  rw [← taken]
  simp only [execStaging, queue, free, if_neg mounted, held, station, time]

end

/-! ### The flash engine -/

theorem State.storeWaiting_of_idle (idle : s.archive.activity = .idle) : s.storeWaiting = s.model.storeOutstanding := by
  simp [State.storeWaiting, idle]

theorem execStartModelStore_of_waiting (idle : s.archive.activity = .idle) (store : s.model.storeOutstanding = true) :
    execStartModelStore s = .next
      { s with archive := { s.archive with activity := .store }, flash := { s.flash with image := none } } :=
  congrArg Host.Outcome.next (if_pos ⟨idle, (State.storeWaiting_of_idle idle).trans store⟩)

theorem execStartModelStore_of_other (h : s.archive.activity ≠ .idle ∨ s.model.storeOutstanding = false) :
    execStartModelStore s = .next s := by
  refine congrArg Host.Outcome.next (if_neg ?_)
  rintro ⟨idle, waiting⟩
  rw [State.storeWaiting_of_idle idle] at waiting
  rcases h with busy | none_waiting
  · exact busy idle
  · exact absurd waiting (by simp [none_waiting])

theorem execStartPageProgram_of_other (h : s.archive.activity ≠ .idle ∨ s.model.storeOutstanding = true ∨
    s.archive.state ≠ .ready ∨ s.archive.loadOrder = []) : execStartPageProgram s = .next s := by
  unfold execStartPageProgram
  split
  next may =>
    obtain ⟨idle, no_store, ready⟩ := may
    rw [State.storeWaiting_of_idle idle] at no_store
    rcases h with busy | store | unready | empty
    · exact absurd idle busy
    · exact absurd no_store (by simp [store])
    · exact absurd ready unready
    · simp only [empty]
  · rfl

theorem execStartPageProgram_of_loaded {b : BufferId} {order : List BufferId} {r : StagedRecord}
    (idle : s.archive.activity = .idle) (no_store : s.model.storeOutstanding = false) (ready : s.archive.state = .ready)
    (first : s.archive.loadOrder = b :: order) (loaded : s.archive.buffer b = .loaded r) : execStartPageProgram s = .next
      { s with
        archive := { s.archive.setBuffer b (.programming r) with loadOrder := order, activity := .program }
        flash := s.flash.beginProgram s.archive.writePage r } := by
  have may : s.archive.activity = .idle ∧ s.storeWaiting = false ∧ s.archive.state = .ready :=
    ⟨idle, (State.storeWaiting_of_idle idle).trans no_store, ready⟩
  simp only [execStartPageProgram, if_pos may, first, loaded]

theorem execModelStoreCompletion_of_store {v : Bool} (store : s.archive.activity = .store) :
    execModelStoreCompletion v s = .next
      (State.postMode
        { s with
          archive := { s.archive with activity := .idle }
          model := { s.model with storeOutstanding := false }
          flash := if v then { s.flash with image := some ⟨s.model.groups, s.model.generation⟩ } else s.flash
          startUp := { s.startUp with
            lastStore := if v then .stored s.model.generation else .failed s.model.generation } }
        (if v then .stored else .storeFailed) s.model.generation) :=
  congrArg Host.Outcome.next (if_pos store)

section
variable {b : BufferId} {r : StagedRecord}

theorem Archive.programmingBuffer_of_b0 {a : Archive} (h : a.buffer0 = .programming r) :
    a.programmingBuffer = some (.b0, r) := by simp only [Archive.programmingBuffer, h]

theorem Archive.programmingBuffer_of_b1 {a : Archive} (other : ∀ x, a.buffer0 ≠ .programming x)
    (h : a.buffer1 = .programming r) : a.programmingBuffer = some (.b1, r) := by
  unfold Archive.programmingBuffer
  split
  next x first => exact absurd first (other x)
  next x second _ => cases second.symm.trans h; rfl
  next neither => exact absurd h (neither r)

theorem execPageProgramSuccess_of_program (program : s.archive.activity = .program)
    (programming : s.archive.programmingBuffer = some (b, r)) :
    execPageProgramSuccess s = .next (s.programSucceeds b r) := by
  simp only [execPageProgramSuccess, if_pos program, programming]

theorem execPageProgramFailure_of_program (program : s.archive.activity = .program)
    (programming : s.archive.programmingBuffer = some (b, r)) :
    execPageProgramFailure s = .next (s.programFails b r) := by
  simp only [execPageProgramFailure, if_pos program, programming]

/-- The state with a record committed, its buffer and its occupation freed and the write page advanced (R144, R147). -/
def State.committed (s : State) (b : BufferId) (r : StagedRecord) : State :=
  let st := s.archive.nextState s.model.groups.wrap
  State.postBoth
    { s with
      archive := { s.archive.setBuffer b .free with
        writePage := s.archive.nextPage, state := st, activity := .idle, failureCount := 0 }
      flash := s.flash.commit s.archive.writePage r
      occupations := s.occupations.free r.occupation }
    (.arch .committed st (some r.occupation) (some s.archive.writePage) s.archive.nextPage
      (s.occupations.free r.occupation).archiveQueue.length)

theorem State.programSucceeds_eq (s : State) (b : BufferId) (r : StagedRecord) :
    s.programSucceeds b r = (s.committed b r).postFullIf (s.archive.fills s.model.groups.wrap) := by
  cases b <;> (simp only [State.programSucceeds, Archive.advance_eq]; rfl)

theorem State.programFails_first (first : s.archive.failureCount = 0) : s.programFails b r =
    State.postFullIf { s with archive := { s.archive.reload b r with
      writePage := s.archive.nextPage, state := s.archive.nextState s.model.groups.wrap, failureCount := 1 } }
      (s.archive.fills s.model.groups.wrap) := by
  cases b <;> (simp only [State.programFails, Archive.advance_eq, if_pos first]; rfl)

theorem State.programFails_second (second : s.archive.failureCount ≠ 0) : s.programFails b r =
    State.postBoth { s with archive := { s.archive.reload b r with state := .fault } }
      (.arch .fault .fault (some r.occupation) (some s.archive.writePage) s.archive.writePage
        s.occupations.archiveQueue.length) := by
  cases b <;> exact if_neg second

end

/-- Settles O55. -/
theorem archiveWorks : Obligations.ArchiveWorks := by
  refine ⟨fun s => execStaging_of_none, ?_, fun s => ⟨execStartModelStore_of_waiting, execStartModelStore_of_other,
    execStartPageProgram_of_other, fun r order idle no_store ready => ⟨fun first loaded => ?_, fun first loaded => ?_⟩⟩,
    fun s no_store v => congrArg Host.Outcome.next (if_neg no_store), ?_, fun s no_program =>
      ⟨congrArg Host.Outcome.next (if_neg no_program), congrArg Host.Outcome.next (if_neg no_program)⟩, ?_⟩
  · rintro s n closed rest o t r q queue mounted held station time rfl rfl
    refine ⟨fun free => ?_, fun used free => ?_⟩
    · exact execStaging_of_head (b := .b0) queue mounted held station time (if_pos free)
    · exact execStaging_of_head (b := .b1) queue mounted held station time ((if_neg used).trans (if_pos free))
  · exact execStartPageProgram_of_loaded (b := .b0) idle no_store ready first loaded
  · exact execStartPageProgram_of_loaded (b := .b1) idle no_store ready first loaded
  · rintro s u gen store rfl rfl
    exact ⟨execModelStoreCompletion_of_store store, execModelStoreCompletion_of_store store⟩
  · rintro s r free loaded page st full program which rfl full_iff at_full otherwise
    obtain ⟨b, programming, rfl, rfl⟩ : ∃ b, s.archive.programmingBuffer = some (b, r) ∧
        free = { s.archive.setBuffer b .free with activity := .idle, failureCount := 0 } ∧ loaded = s.archive.reload b r := by
      rcases which with ⟨first, hfree, hloaded⟩ | ⟨second, other, hfree, hloaded⟩
      · exact ⟨.b0, Archive.programmingBuffer_of_b0 first, hfree, hloaded⟩
      · exact ⟨.b1, Archive.programmingBuffer_of_b1 other second, hfree, hloaded⟩
    have fills : s.archive.fills s.model.groups.wrap = true ↔ full := Archive.fills_iff.trans full_iff.symm
    have state : st = s.archive.nextState s.model.groups.wrap := by
      unfold Archive.nextState
      by_cases h : full
      · rw [if_pos (fills.mpr h), at_full h]
      · rw [if_neg (fills.not.mpr h), otherwise h]
    have succeeds := execPageProgramSuccess_of_program program programming
    have fails := execPageProgramFailure_of_program program programming
    rw [State.programSucceeds_eq] at succeeds
    refine ⟨?_, fun first => ?_, fun second => ?_⟩
    · rintro u waiting rfl hu
      have committed : s.committed b r = u := by rw [hu, state]; cases b <;> rfl
      rw [committed] at succeeds
      refine ⟨fun room => succeeds.trans ?_, fun h => succeeds.trans ?_⟩
      · rw [State.postFullIf, if_neg (fills.not.mpr room)]
      · rw [State.postFullIf, if_pos (fills.mpr h), hu, at_full h]
        rfl
    · rintro u rfl
      rw [State.programFails_first first, ← state] at fails
      refine ⟨fun room => fails.trans ?_, fun h => fails.trans ?_⟩
      · rw [State.postFullIf, if_neg (fills.not.mpr room)]
        rfl
      · rw [State.postFullIf, if_pos (fills.mpr h), at_full h]
        rfl
    · rw [State.programFails_second second] at fails
      exact fails

/-! ### ARRT -/

theorem arrtReply_of_fault {page : Nat} {st : ArchiveState} {kind : ArchKind} (fault : s.archive.state = .fault)
    (at_page : page = s.archive.nextPage)
    (full : 4095 ≤ s.archive.writePage ∧ s.model.groups.wrap = false → st = .full ∧ kind = .full)
    (resumed : s.archive.writePage < 4095 ∨ s.model.groups.wrap = true → st = .ready ∧ kind = .resumed) :
    arrtReply [] s = ⟨.okay, u8 st.code ++ u16 page,
      State.postBoth { s with archive := { s.archive with state := st, writePage := page, failureCount := 0 } }
        (.arch kind st none none page s.occupations.archiveQueue.length)⟩ := by
  subst at_page
  have moves : s.resumeArchive =
      State.postBoth { s with archive := { s.archive with state := st, writePage := s.archive.nextPage, failureCount := 0 } }
        (.arch kind st none none s.archive.nextPage s.occupations.archiveQueue.length) := by
    by_cases fills : 4095 ≤ s.archive.writePage ∧ s.model.groups.wrap = false
    · obtain ⟨rfl, rfl⟩ := full fills
      have fills := Archive.fills_iff.mpr fills
      have state : Archive.nextState { s.archive with state := .ready } s.model.groups.wrap = .full := if_pos fills
      simp only [State.resumeArchive, Archive.advance_eq, state, if_pos fills]
      rfl
    · obtain ⟨rfl, rfl⟩ := resumed (by
        rw [← Bool.not_eq_false, ← not_le]
        exact Decidable.not_and_iff_or_not.mp fills)
      have fills := Archive.fills_iff.not.mpr fills
      have state : Archive.nextState { s.archive with state := .ready } s.model.groups.wrap = .ready := if_neg fills
      simp only [State.resumeArchive, Archive.advance_eq, state, if_neg fills]
      rfl
  rw [arrtReply, State.sized_length s List.length_nil, if_pos fault, moves]
  rfl

/-! ### The read cursors -/

section
variable (length : l.length = 3)
include length

theorem arskReply_of_page (selection : u8At l 0 = 0) :
    arskReply p l s = if u16At l 1 < 4096 then s.seekReply p (some (u16At l 1)) else s.refuse .args := by
  rw [arskReply, State.sized_length s length]
  simp only [selection]
  rfl

theorem arskReply_of_oldest (selection : u8At l 0 = 1) : arskReply p l s = s.seekReply p (s.flash.oldest.map (·.1)) := by
  rw [arskReply, State.sized_length s length]
  simp only [selection]

theorem arskReply_of_newest (selection : u8At l 0 = 2) : arskReply p l s = s.seekReply p (s.flash.newest.map (·.1)) := by
  rw [arskReply, State.sized_length s length]
  simp only [selection]

theorem arskReply_of_no_selection (selection : 2 < u8At l 0) : arskReply p l s = s.refuse .args := by
  obtain ⟨m, hm⟩ : ∃ m, u8At l 0 = m + 3 := ⟨u8At l 0 - 3, by omega⟩
  rw [arskReply, State.sized_length s length]
  simp only [hm]

end

theorem State.stepCursor_eq (within : s.archive.cursor p ≤ 4095) : s.stepCursor p =
    { s with archive := s.archive.setCursor p (if s.archive.cursor p = 4095 then 0 else s.archive.cursor p + 1) } := by
  have advanced : (s.archive.cursor p + 1) % pageCount = if s.archive.cursor p = 4095 then 0 else s.archive.cursor p + 1 := by
    unfold pageCount
    split <;> omega
  rw [State.stepCursor, advanced]
  rfl

theorem arnxReply_of_programming (program : s.archive.activity = .program) (here : s.archive.cursor p = s.archive.writePage) :
    arnxReply p [] s = s.busy .programming := if_pos ⟨program, here⟩

section
variable (free : ¬(s.archive.activity = .program ∧ s.archive.cursor p = s.archive.writePage))
include free

theorem arnxReply_of_valid (valid : s.flash.condition (s.archive.cursor p) = .valid) : arnxReply p [] s =
    ⟨.okay, u16 (s.archive.cursor p) ++ (s.flash.pageContents (s.archive.cursor p)).take 504, s.stepCursor p⟩ := by
  rw [arnxReply, State.sized_length s List.length_nil]
  simp only [if_neg free, valid]

theorem arnxReply_of_erased (erased : s.flash.condition (s.archive.cursor p) = .erased) :
    arnxReply p [] s = ⟨.empt, u16 (s.archive.cursor p) ++ u8 0, s.stepCursor p⟩ := by
  rw [arnxReply, State.sized_length s List.length_nil]
  simp only [if_neg free, erased]

theorem arnxReply_of_invalid (invalid : s.flash.condition (s.archive.cursor p) = .invalid) :
    arnxReply p [] s = ⟨.empt, u16 (s.archive.cursor p) ++ u8 1, s.stepCursor p⟩ := by
  rw [arnxReply, State.sized_length s List.length_nil]
  simp only [if_neg free, invalid]

end

/-- Settles O56. -/
theorem archiveRequests : Obligations.ArchiveRequests := by
  intro s p tag takes
  refine ⟨fun sound => ?_, fun fault page st kind at_page full resumed => ?_, fun l length => ⟨fun selection past => ?_,
    fun selection => ?_, fun page chosen => ?_, fun missing => ?_⟩, ?_⟩
  · have refused : arrtReply [] s = s.refuse .same := if_neg sound
    exact exec_replies (c := .arrt p tag []) rfl takes refused
  · rw [← u8_eq]
    exact exec_replies (c := .arrt p tag []) rfl takes (arrtReply_of_fault fault at_page full resumed)
  · have rule := arskReply_of_page (s := s) (p := p) length selection
    rw [if_neg past.not_gt] at rule
    exact exec_replies (c := .arsk p tag l) rfl takes rule
  · exact exec_replies (c := .arsk p tag l) rfl takes (arskReply_of_no_selection length selection)
  · have rule : arskReply p l s = s.seekReply p (some page) := by
      rcases chosen with ⟨selection, rfl, below⟩ | ⟨selection, n, found⟩ | ⟨selection, n, found⟩
      · rw [arskReply_of_page length selection, if_pos below]
      · rw [arskReply_of_oldest length selection, found]; rfl
      · rw [arskReply_of_newest length selection, found]; rfl
    exact exec_replies (c := .arsk p tag l) rfl takes rule
  · have rule : arskReply p l s = s.seekReply p none := by
      rcases missing with ⟨selection, found⟩ | ⟨selection, found⟩
      · rw [arskReply_of_oldest length selection, found]; rfl
      · rw [arskReply_of_newest length selection, found]; rfl
    exact exec_replies (c := .arsk p tag l) rfl takes rule
  · rintro page u rfl rfl
    refine ⟨fun program here => ?_, fun within elsewhere => ?_⟩
    · exact exec_replies (c := .arnx p tag []) rfl takes (arnxReply_of_programming program here)
    · have free : ¬(s.archive.activity = .program ∧ s.archive.cursor p = s.archive.writePage) :=
        Decidable.not_and_iff_or_not.mpr elsewhere
      rw [← State.stepCursor_eq within]
      exact ⟨fun valid => exec_replies (c := .arnx p tag []) rfl takes (arnxReply_of_valid free valid),
        fun erased => exec_replies (c := .arnx p tag []) rfl takes (arnxReply_of_erased free erased),
        fun invalid => exec_replies (c := .arnx p tag []) rfl takes (arnxReply_of_invalid free invalid)⟩

end Sys2Proof.Machine
end

section
/-!
PROOFS. Chapter 5.2: the device cosine against the cosine (R67; log entry 6). The fixed point computes the terms of the cosine
series at a squared angle Y, each cut down to a whole unit of 2^-160. The proof follows the error through its four sources:
the angle Y holds, the terms cut down, the series cut off after 26 terms, and the last rounding.
-/

namespace Sys2Proof.Machine

/-! ### The series in fixed point -/

/-- The k-th term of the cosine series at a squared angle, in fixed point. -/
def cosTerm (x2 : Nat) : Nat → Nat
  | 0 => oneFixed
  | k + 1 => cosTerm x2 k * x2 / oneFixed / ((2 * k + 1) * (2 * k + 2))

theorem cosTerm_succ (x2 k : Nat) :
    cosTerm x2 (k + 1) = cosTerm x2 k * x2 / oneFixed / ((2 * k + 1) * (2 * k + 2)) := rfl

theorem cosSums_zero (x2 fuel n pos neg : Nat) : cosSums x2 fuel n 0 pos neg = (pos, neg) := by
  cases fuel <;> rfl

/-- A term of 0 ends the series, but to go on would add nothing. -/
theorem cosSums_succ (x2 fuel n t pos neg : Nat) : cosSums x2 (fuel + 1) n t pos neg =
    cosSums x2 fuel (n + 1)
      (t * x2 / oneFixed / ((4 * n + 1) * (4 * n + 2)) * x2 / oneFixed / ((4 * n + 3) * (4 * n + 4)))
      (pos + t) (neg + t * x2 / oneFixed / ((4 * n + 1) * (4 * n + 2))) := by
  cases t with
  | zero => simp only [Nat.zero_mul, Nat.zero_div, Nat.add_zero, cosSums_zero]
  | succ t => rfl

theorem cosSums_eq (x2 fuel n pos neg : Nat) : cosSums x2 fuel n (cosTerm x2 (2 * n)) pos neg =
    (pos + ∑ j ∈ Finset.range fuel, cosTerm x2 (2 * (n + j)),
      neg + ∑ j ∈ Finset.range fuel, cosTerm x2 (2 * (n + j) + 1)) := by
  induction fuel generalizing n pos neg with
  | zero => rfl
  | succ fuel ih =>
    have odd : cosTerm x2 (2 * n) * x2 / oneFixed / ((4 * n + 1) * (4 * n + 2)) = cosTerm x2 (2 * n + 1) := by
      rw [cosTerm_succ, ← Nat.mul_assoc]
    have even : cosTerm x2 (2 * n + 1) * x2 / oneFixed / ((4 * n + 3) * (4 * n + 4)) = cosTerm x2 (2 * (n + 1)) := by
      rw [show 2 * (n + 1) = 2 * n + 1 + 1 by ring, cosTerm_succ x2 (2 * n + 1), show 2 * (2 * n + 1) + 1 = 4 * n + 3 by ring,
        show 2 * (2 * n + 1) + 2 = 4 * n + 4 by ring]
    have shift (j : Nat) : n + 1 + j = n + (j + 1) := by omega
    rw [cosSums_succ, odd, even, ih, Finset.sum_range_succ', Finset.sum_range_succ']
    simp only [shift, Nat.add_zero, Nat.add_assoc, Nat.add_comm]

/-! ### The terms cut down -/

theorem natDiv_near (m : Nat) {d : Nat} (pos : 0 < d) : ((m / d : Nat) : ℝ) ≤ m / d ∧ (m : ℝ) / d < (m / d : Nat) + 1 := by
  refine ⟨Nat.cast_div_le, ?_⟩
  rw [div_lt_iff₀ (by exact_mod_cast pos), mul_comm]
  exact_mod_cast Nat.lt_mul_div_succ m pos

theorem oneFixed_eq : (oneFixed : ℝ) = 2 ^ 160 := by norm_num [oneFixed]

/-- One term from the one before: what is cut off is less than a unit. -/
theorem cosTerm_succ_near (x2 k : Nat) :
    (cosTerm x2 (k + 1) : ℝ) ≤ cosTerm x2 k * (x2 / oneFixed) / ((2 * k + 1) * (2 * k + 2)) ∧
      (cosTerm x2 k * (x2 / oneFixed) / ((2 * k + 1) * (2 * k + 2)) : ℝ) < cosTerm x2 (k + 1) + 1 := by
  have near := natDiv_near (cosTerm x2 k * x2) (d := oneFixed * ((2 * k + 1) * (2 * k + 2)))
    (Nat.mul_pos (by decide) (Nat.mul_pos (by omega) (by omega)))
  rw [← Nat.div_div_eq_div_mul, ← cosTerm_succ] at near
  push_cast at near
  rwa [← div_div, mul_div_assoc (cosTerm x2 k : ℝ)] at near

/-- The k-th term of the cosine series at a squared angle. -/
noncomputable def seriesTerm (Y : ℝ) (k : ℕ) : ℝ := Y ^ k / (2 * k).factorial

theorem seriesTerm_succ (Y : ℝ) (k : ℕ) :
    seriesTerm Y (k + 1) = seriesTerm Y k * Y / ((2 * k + 1) * (2 * k + 2)) := by
  rw [seriesTerm, seriesTerm, show 2 * (k + 1) = 2 * k + 1 + 1 by ring, Nat.factorial_succ, Nat.factorial_succ]
  push_cast
  field_simp
  ring

/-- A term in fixed point lies below the true one by no more than 2 units. -/
theorem cosTerm_near {x2 : Nat} (small : (x2 : ℝ) / oneFixed ≤ 5 / 2) (k : ℕ) :
    (cosTerm x2 k : ℝ) ≤ oneFixed * seriesTerm (x2 / oneFixed) k ∧
      oneFixed * seriesTerm (x2 / oneFixed) k ≤ cosTerm x2 k + 2 := by
  have positive : (0 : ℝ) ≤ (x2 : ℝ) / oneFixed := by positivity
  have step (k : ℕ) : oneFixed * seriesTerm (x2 / oneFixed) (k + 1) =
      oneFixed * seriesTerm (x2 / oneFixed) k * (x2 / oneFixed) / ((2 * k + 1) * (2 * k + 2)) := by
    rw [seriesTerm_succ]; ring
  induction k with
  | zero => simp [seriesTerm, cosTerm]
  | succ k ih =>
    obtain ⟨low, high⟩ := cosTerm_succ_near x2 k
    rw [step]
    obtain ⟨below, above⟩ := ih
    have divisor : (0 : ℝ) < (2 * k + 1) * (2 * k + 2) := by positivity
    refine ⟨low.trans (by gcongr), ?_⟩
    cases k with
    | zero =>
      have start : (oneFixed : ℝ) * seriesTerm (x2 / oneFixed) 0 = cosTerm x2 0 := by simp [seriesTerm, cosTerm]
      rw [start]
      linarith
    | succ k =>
      have large : (12 : ℝ) ≤ (2 * (k + 1 : ℕ) + 1) * (2 * (k + 1 : ℕ) + 2) := by
        push_cast
        nlinarith [(Nat.cast_nonneg k : (0 : ℝ) ≤ k)]
      generalize ((2 * (k + 1 : ℕ) + 1) * (2 * (k + 1 : ℕ) + 2) : ℝ) = d at *
      generalize (x2 : ℝ) / oneFixed = Y at *
      have part : 2 * Y / d ≤ 1 := by
        rw [div_le_one divisor]
        linarith
      calc oneFixed * seriesTerm Y (k + 1) * Y / d ≤ (cosTerm x2 (k + 1) + 2) * Y / d := by gcongr
        _ = cosTerm x2 (k + 1) * Y / d + 2 * Y / d := by ring
        _ ≤ cosTerm x2 (k + 1 + 1) + 2 := by linarith

/-- The difference of the two sums, to within the cut of each of 26 terms. -/
theorem cosSums_near {x2 : Nat} (small : (x2 : ℝ) / oneFixed ≤ 5 / 2) :
    |((cosSums x2 13 0 oneFixed 0 0).1 - (cosSums x2 13 0 oneFixed 0 0).2 : ℝ) -
      oneFixed * ∑ j ∈ Finset.range 13,
        (seriesTerm (x2 / oneFixed) (2 * j) - seriesTerm (x2 / oneFixed) (2 * j + 1))| ≤ 26 := by
  have sums := cosSums_eq x2 13 0 0 0
  simp only [Nat.zero_add] at sums
  rw [show oneFixed = cosTerm x2 (2 * 0) from rfl, sums]
  push_cast
  rw [← Finset.sum_sub_distrib, Finset.mul_sum, ← Finset.sum_sub_distrib]
  calc |∑ j ∈ Finset.range 13, ((cosTerm x2 (2 * j) : ℝ) - cosTerm x2 (2 * j + 1) -
        oneFixed * (seriesTerm (x2 / oneFixed) (2 * j) - seriesTerm (x2 / oneFixed) (2 * j + 1)))|
      ≤ ∑ j ∈ Finset.range 13, |(cosTerm x2 (2 * j) : ℝ) - cosTerm x2 (2 * j + 1) -
        oneFixed * (seriesTerm (x2 / oneFixed) (2 * j) - seriesTerm (x2 / oneFixed) (2 * j + 1))| :=
        Finset.abs_sum_le_sum_abs ..
    _ ≤ ∑ _j ∈ Finset.range 13, (2 : ℝ) := Finset.sum_le_sum fun j _ => by
        have even := cosTerm_near small (2 * j)
        have odd := cosTerm_near small (2 * j + 1)
        rw [abs_le]
        constructor <;> linarith
    _ = 26 := by norm_num

/-! ### The series cut off -/

open Complex in
/-- The real part of the exponential series at an imaginary number is the cosine series. -/
theorem expSeries_re (z : ℝ) (n : ℕ) : (∑ m ∈ Finset.range (4 * n), ((z : ℂ) * I) ^ m / (m.factorial : ℂ)).re =
    ∑ j ∈ Finset.range n, (seriesTerm (z ^ 2) (2 * j) - seriesTerm (z ^ 2) (2 * j + 1)) := by
  induction n with
  | zero => simp
  | succ n ih =>
    have power (m k : ℕ) : ((z : ℂ) * I) ^ (4 * n + m) / (k.factorial : ℂ) =
        ((z ^ (4 * n + m) / k.factorial : ℝ) : ℂ) * I ^ m := by
      rw [mul_pow, pow_add I, pow_mul I, I_pow_four, one_pow, one_mul]
      push_cast
      ring
    have whole := power 0 (4 * n)
    rw [Nat.add_zero] at whole
    rw [show 4 * (n + 1) = 4 * n + 1 + 1 + 1 + 1 by ring]
    simp only [Finset.sum_range_succ, add_re, ih, Nat.add_assoc, Nat.reduceAdd]
    rw [whole, power 1, power 2, power 3, seriesTerm, seriesTerm, show 2 * (2 * n) = 4 * n by ring,
      show 2 * (2 * n + 1) = 4 * n + 2 by ring]
    simp only [re_ofReal_mul, pow_zero, pow_one, I_sq, I_pow_three, one_re, I_re, neg_re]
    ring

/-- The cosine to within what its series leaves after 26 terms. -/
theorem cos_near_series {z : ℝ} (low : 0 ≤ z) (high : z ≤ 2) :
    |Real.cos z - ∑ j ∈ Finset.range 13, (seriesTerm (z ^ 2) (2 * j) - seriesTerm (z ^ 2) (2 * j + 1))| ≤ 1 / 2 ^ 100 := by
  have norm : ‖(z : ℂ) * Complex.I‖ = z := by simp [abs_of_nonneg low]
  have bound := Complex.exp_bound' (x := (z : ℂ) * Complex.I) (n := 52) (by rw [norm]; norm_num; linarith)
  have real := (Complex.abs_re_le_norm _).trans bound
  rw [Complex.sub_re, Complex.exp_ofReal_mul_I_re, show 52 = 4 * 13 from rfl, expSeries_re, norm] at real
  refine real.trans ?_
  calc z ^ (4 * 13) / ((4 * 13).factorial : ℝ) * 2 ≤ 2 ^ (4 * 13) / ((4 * 13).factorial : ℝ) * 2 := by gcongr
    _ ≤ 1 / 2 ^ 100 := by norm_num [Nat.factorial]

/-! ### The angle in fixed point -/

theorem piFixed_near : |(piFixed : ℝ) / oneFixed - Real.pi| ≤ 1 / 10 ^ 20 := by
  have low := Real.pi_gt_d20
  have high := Real.pi_lt_d20
  have below : (3.14159265358979323846 : ℝ) ≤ (piFixed : ℝ) / oneFixed := by norm_num [piFixed, oneFixed]
  have above : (piFixed : ℝ) / oneFixed ≤ 3.14159265358979323847 := by norm_num [piFixed, oneFixed]
  rw [abs_le]
  constructor <;> linarith

/-- The angle of a phase in the first quarter turn, in fixed point. -/
def angleFixed (r : Nat) : Nat := piFixed * r / 2147483648

/-- The square of the angle, in fixed point. -/
def squareFixed (r : Nat) : Nat := angleFixed r * angleFixed r / oneFixed

section
variable {r : Nat} (quarter : r ≤ 1073741824)
include quarter

theorem angleFixed_near : |(angleFixed r : ℝ) / oneFixed - Real.pi * r / 2 ^ 31| ≤ 1 / 2 / 10 ^ 20 + 1 / 2 ^ 160 := by
  have one : (0 : ℝ) < oneFixed := by rw [oneFixed_eq]; positivity
  obtain ⟨low, high⟩ := natDiv_near (piFixed * r) (d := 2147483648) (by norm_num)
  have turn : (r : ℝ) / 2 ^ 31 ≤ 1 / 2 := by
    have : (r : ℝ) ≤ 1073741824 := by exact_mod_cast quarter
    rw [div_le_div_iff₀ (by positivity) (by positivity)]
    linarith
  have cut : |(angleFixed r : ℝ) / oneFixed - piFixed / oneFixed * (r / 2 ^ 31)| ≤ 1 / 2 ^ 160 := by
    have same : (piFixed : ℝ) / oneFixed * (r / 2 ^ 31) = (piFixed * r : ℕ) / (2147483648 : ℕ) / oneFixed := by
      push_cast; ring
    rw [same, ← sub_div, abs_div, abs_of_pos one, oneFixed_eq]
    gcongr
    rw [abs_le]
    unfold angleFixed
    constructor <;> linarith
  have pi : |(piFixed : ℝ) / oneFixed * (r / 2 ^ 31) - Real.pi * r / 2 ^ 31| ≤ 1 / 2 / 10 ^ 20 := by
    have same : (piFixed : ℝ) / oneFixed * (r / 2 ^ 31) - Real.pi * r / 2 ^ 31 =
        (piFixed / oneFixed - Real.pi) * (r / 2 ^ 31) := by ring
    rw [same, abs_mul, abs_of_nonneg (by positivity : (0 : ℝ) ≤ r / 2 ^ 31)]
    calc |(piFixed : ℝ) / oneFixed - Real.pi| * (r / 2 ^ 31) ≤ 1 / 10 ^ 20 * (1 / 2) := by
          gcongr; exact piFixed_near
      _ = 1 / 2 / 10 ^ 20 := by ring
  calc |(angleFixed r : ℝ) / oneFixed - Real.pi * r / 2 ^ 31|
      ≤ |(angleFixed r : ℝ) / oneFixed - piFixed / oneFixed * (r / 2 ^ 31)| +
        |(piFixed : ℝ) / oneFixed * (r / 2 ^ 31) - Real.pi * r / 2 ^ 31| := abs_sub_le ..
    _ ≤ 1 / 2 / 10 ^ 20 + 1 / 2 ^ 160 := by linarith

theorem angleFixed_le : (angleFixed r : ℝ) / oneFixed ≤ 1.575 := by
  have bound : angleFixed r ≤ piFixed * 1073741824 / 2147483648 := Nat.div_le_div_right (Nat.mul_le_mul_left _ quarter)
  calc (angleFixed r : ℝ) / oneFixed ≤ ((piFixed * 1073741824 / 2147483648 : ℕ) : ℝ) / oneFixed := by gcongr
    _ ≤ 1.575 := by norm_num [piFixed, oneFixed]

omit quarter in
theorem squareFixed_near (r : Nat) : (squareFixed r : ℝ) / oneFixed ≤ (angleFixed r / oneFixed) ^ 2 ∧
    ((angleFixed r : ℝ) / oneFixed) ^ 2 ≤ squareFixed r / oneFixed + 1 / 2 ^ 160 := by
  have one : (0 : ℝ) < oneFixed := by rw [oneFixed_eq]; positivity
  obtain ⟨low, high⟩ := natDiv_near (angleFixed r * angleFixed r) (d := oneFixed) (by decide)
  have same : ((angleFixed r : ℝ) / oneFixed) ^ 2 = (angleFixed r * angleFixed r : ℕ) / oneFixed / oneFixed := by
    push_cast; ring
  rw [same, ← oneFixed_eq, ← add_div]
  exact ⟨by gcongr; exact low, by gcongr; exact high.le⟩

theorem squareFixed_le : (squareFixed r : ℝ) / oneFixed ≤ 5 / 2 := by
  have angle := angleFixed_le quarter
  calc (squareFixed r : ℝ) / oneFixed ≤ (angleFixed r / oneFixed) ^ 2 := (squareFixed_near r).1
    _ ≤ 1.575 ^ 2 := by gcongr
    _ ≤ 5 / 2 := by norm_num

/-- The angle that the squared one stands for, against the angle of the phase. -/
theorem sqrt_squareFixed_near : |√((squareFixed r : ℝ) / oneFixed) - Real.pi * r / 2 ^ 31| ≤ 1 / 10 ^ 20 := by
  obtain ⟨low, high⟩ := squareFixed_near r
  have positive : (0 : ℝ) ≤ (squareFixed r : ℝ) / oneFixed := by positivity
  have angle : (0 : ℝ) ≤ (angleFixed r : ℝ) / oneFixed := by positivity
  have below : √((squareFixed r : ℝ) / oneFixed) ≤ angleFixed r / oneFixed := Real.sqrt_le_iff.mpr ⟨angle, low⟩
  have square := Real.sq_sqrt positive
  have root := Real.sqrt_nonneg ((squareFixed r : ℝ) / oneFixed)
  have cut : |√((squareFixed r : ℝ) / oneFixed) - angleFixed r / oneFixed| ≤ 1 / 2 ^ 80 := by
    refine abs_le_of_sq_le_sq ?_ (by positivity)
    have product := mul_nonneg root (sub_nonneg.mpr below)
    rw [show (1 / 2 ^ 80 : ℝ) ^ 2 = 1 / 2 ^ 160 by norm_num]
    linarith
  calc |√((squareFixed r : ℝ) / oneFixed) - Real.pi * r / 2 ^ 31|
      ≤ |√((squareFixed r : ℝ) / oneFixed) - angleFixed r / oneFixed| +
        |(angleFixed r : ℝ) / oneFixed - Real.pi * r / 2 ^ 31| := abs_sub_le ..
    _ ≤ 1 / 2 ^ 80 + (1 / 2 / 10 ^ 20 + 1 / 2 ^ 160) := add_le_add cut (angleFixed_near quarter)
    _ ≤ 1 / 10 ^ 20 := by norm_num

/-! ### The cosine in the first quarter turn -/

/-- The fixed point before its last rounding, against the cosine. -/
theorem cosSums_near_cos :
    |((cosSums (squareFixed r) 13 0 oneFixed 0 0).1 - (cosSums (squareFixed r) 13 0 oneFixed 0 0).2 : ℝ) -
      2 ^ 160 * Real.cos (Real.pi * r / 2 ^ 31)| ≤ 26 + 2 ^ 160 * (1 / 2 ^ 100 + 1 / 10 ^ 20) := by
  have small := squareFixed_le quarter
  have sums := cosSums_near small
  have root : √((squareFixed r : ℝ) / oneFixed) ^ 2 = squareFixed r / oneFixed := Real.sq_sqrt (by positivity)
  have two : √((squareFixed r : ℝ) / oneFixed) ≤ 2 := Real.sqrt_le_iff.mpr ⟨by norm_num, by linarith⟩
  have series := cos_near_series (Real.sqrt_nonneg _) two
  have angle := (Real.abs_cos_sub_cos_le _ _).trans (sqrt_squareFixed_near quarter)
  rw [root] at series
  rw [oneFixed_eq] at sums
  rw [oneFixed_eq] at series angle
  generalize ∑ j ∈ Finset.range 13, (seriesTerm _ (2 * j) - seriesTerm _ (2 * j + 1)) = S at sums series
  rw [abs_le] at *
  constructor <;> linarith

theorem cosQuarter_near : |(cosQuarter r : ℝ) - 2 ^ 30 * Real.cos (Real.pi * r / 2 ^ 31)| ≤ 1 / 2 + 1 / 2 ^ 30 := by
  have sums := cosSums_near_cos quarter
  have eq : cosQuarter r = ((cosSums (squareFixed r) 13 0 oneFixed 0 0).1 - (cosSums (squareFixed r) 13 0 oneFixed 0 0).2 +
    680564733841876926926749214863536422912) / 1361129467683753853853498429727072845824 := rfl
  generalize (cosSums (squareFixed r) 13 0 oneFixed 0 0).1 = pos at *
  generalize (cosSums (squareFixed r) 13 0 oneFixed 0 0).2 = neg at *
  have cos_nonneg : 0 ≤ Real.cos (Real.pi * r / 2 ^ 31) := by
    have turn : (r : ℝ) ≤ 1073741824 := by exact_mod_cast quarter
    refine Real.cos_nonneg_of_neg_pi_div_two_le_of_le ?_ ?_
    · linarith [show 0 ≤ Real.pi * r / 2 ^ 31 by positivity, Real.pi_pos]
    · rw [div_le_div_iff₀ (by positivity) (by positivity)]
      nlinarith [Real.pi_pos]
  generalize Real.cos (Real.pi * r / 2 ^ 31) = c at *
  have difference : |((pos - neg : ℕ) : ℝ) - 2 ^ 160 * c| ≤ 26 + 2 ^ 160 * (1 / 2 ^ 100 + 1 / 10 ^ 20) := by
    rw [abs_le] at sums ⊢
    rcases Nat.le_total neg pos with le | le
    · rw [Nat.cast_sub le]; exact sums
    · have order : (pos : ℝ) ≤ neg := by exact_mod_cast le
      rw [Nat.sub_eq_zero_of_le le, Nat.cast_zero]
      constructor <;> linarith
  obtain ⟨low, high⟩ := natDiv_near (pos - neg + 680564733841876926926749214863536422912)
    (d := 1361129467683753853853498429727072845824) (by norm_num)
  rw [← eq] at low high
  push_cast at low high
  rw [abs_le] at difference ⊢
  constructor <;> linarith

end

/-! ### Every quarter turn -/

/-- The second and the fourth quarter read the first one backwards. -/
theorem cos_complement {r : Nat} (h : r ≤ 1073741824) :
    Real.cos (Real.pi * (1073741824 - r : ℕ) / 2 ^ 31) = Real.sin (Real.pi * r / 2 ^ 31) := by
  rw [← Real.cos_pi_div_two_sub, Nat.cast_sub h]
  congr 1
  push_cast
  ring

/-- Settles O32. -/
theorem cosineIsNearest : Obligations.CosineIsNearest := by
  intro θ below
  obtain ⟨r, h, quarter⟩ : ∃ r, r < 1073741824 ∧
      (θ = r ∨ θ = 1073741824 + r ∨ θ = 2147483648 + r ∨ θ = 3221225472 + r) :=
    ⟨θ % 1073741824, by omega, by omega⟩
  have forwards := cosQuarter_near h.le
  have backwards := cosQuarter_near (Nat.sub_le 1073741824 r)
  rw [cos_complement h.le] at backwards
  rw [abs_le] at forwards backwards ⊢
  rcases quarter with rfl | rfl | rfl | rfl
  · have angle : 2 * Real.pi * θ / 2 ^ 32 = Real.pi * θ / 2 ^ 31 := by ring
    rw [deviceCosine_first h, angle]
    push_cast
    exact forwards
  · have angle : 2 * Real.pi * (1073741824 + r : ℕ) / 2 ^ 32 = Real.pi * r / 2 ^ 31 + Real.pi / 2 := by push_cast; ring
    rw [deviceCosine_second h, angle, Real.cos_add_pi_div_two]
    push_cast
    constructor <;> linarith
  · have angle : 2 * Real.pi * (2147483648 + r : ℕ) / 2 ^ 32 = Real.pi * r / 2 ^ 31 + Real.pi := by push_cast; ring
    rw [deviceCosine_third h, angle, Real.cos_add_pi]
    push_cast
    constructor <;> linarith
  · have angle : 2 * Real.pi * (3221225472 + r : ℕ) / 2 ^ 32 = Real.pi * r / 2 ^ 31 + Real.pi + Real.pi / 2 := by
      push_cast; ring
    rw [deviceCosine_fourth h, angle, Real.cos_add_pi_div_two, Real.sin_add_pi, neg_neg]
    push_cast
    exact backwards

end Sys2Proof.Machine
end
